-- ==== Sys2Proof/Word.lean ====
section
/-! DEFINITION. Word.lean: the widths in which the part carries its numbers (R204). -/

namespace Sys2Proof

/-- One byte: a landing, group, car, tenant, schedule, count or code as R204 carries it. -/
abbrev Byte := BitVec 8

/-- Two bytes: a day number, a call number, a minute of day (R204). -/
abbrev Half := BitVec 16

/-- A badge number, an unsigned 40-bit number (R204). -/
abbrev Badge := BitVec 40

/-- A set of up to eight things numbered 0 to 7, bit n set when n is in it: groups, alarm lines, day types (R204). -/
abbrev Set8 := BitVec 8

end Sys2Proof
end

