-- ==== Sys2Proof/Config.lean ====
section
/-! DEFINITION. Config.lean: the capacities of the part (1.7 Device limits), the ranges and defaults of its
parameters (R66), and the one value the manual leaves open. -/

namespace Sys2Proof.Config

/-- Credential records (R1). -/
abbrev credentials : Nat := 16384
/-- Personal grants of a credential (R3). -/
abbrev personalGrants : Nat := 4
/-- Floor grants of a tenant or an overlay (R30). -/
abbrev floorGrants : Nat := 8
/-- Overlay slots (R41). -/
abbrev overlaySlots : Nat := 2
/-- The greatest schedule number (R59). -/
abbrev lastSchedule : Nat := 63
/-- Windows of a schedule (R59). -/
abbrev windows : Nat := 8
/-- Day numbers in the holiday list (R58). -/
abbrev holidays : Nat := 32
/-- The greatest landing (R70). -/
abbrev lastLanding : Nat := 127
/-- Lift groups (R72). -/
abbrev groups : Nat := 8
/-- Served ranges of a group (R72). -/
abbrev servedRanges : Nat := 4
/-- Positions of the transfer table (R76). -/
abbrev transfers : Nat := 16
/-- Drops: 6 links of 16 addresses (R79). -/
abbrev drops : Nat := 96
/-- Panel links (R151). -/
abbrev links : Nat := 6
/-- Addresses on a panel link (R79). -/
abbrev addresses : Nat := 16
/-- Requests in a drop's queue (R159). -/
abbrev requestQueue : Nat := 2
/-- Answers in a drop's answer list (R162). -/
abbrev answerList : Nat := 4
/-- Call slots (R113). -/
abbrev callSlots : Nat := 32
/-- Frames in the dispatcher send queue (R133). -/
abbrev sendQueue : Nat := 64
/-- Transfer tickets (R135). -/
abbrev tickets : Nat := 1024
/-- Alarm lines (R169). -/
abbrev alarmLines : Nat := 8
/-- Escorted credentials one escort window admits (R106). -/
abbrev escorted : Nat := 4
/-- The longest debounce time, in units of 0.1 s (R169). -/
abbrev debounceMax : Nat := 25
/-- Service time units in a second and in a minute (R66, R139). -/
abbrev second : Nat := 10
/-- Service time units in a minute (R139). -/
abbrev minute : Nat := 600
/-- The running count of a sweep stays here once it has reached it (R62). -/
abbrev sweepCountMax : Nat := 65535

/-- The tag the part takes for the n-th command frame that is too short to carry one.
DESIGN CHOICE (log 20): R207 puts a tag in every command frame and no rule says what is answered where there is
none, so the value is left open. -/
opaque untaggedTag : Nat → Byte

end Sys2Proof.Config
end

