-- ==== Sys2Proof/Syntax.lean ====
section
/-! DEFINITION. Syntax.lean: the commands the part takes, one constructor for each row of the opcode table, with the
operands each carries. Management commands carry their fields AS THE FRAME CARRIES THEM (R204, R207): the checks of
ranges are the meanings'. -/

namespace Sys2Proof

/-- A grant {low landing, high landing, schedule} (R3, R30). -/
structure Grant where
  low : Byte
  high : Byte
  schedule : Byte
  deriving DecidableEq, Repr

/-- A schedule window: the day types it matches (bits 0 to 7: MON … SUN, HOL), start and end minute (R59, R204). -/
structure Window where
  days : Set8
  start : Half
  stop : Half
  deriving DecidableEq, Repr

/-- A served range of landings (R72). -/
structure LandingRange where
  low : Byte
  high : Byte
  deriving DecidableEq, Repr

/-- The credential image as CRED_ENROL and CRED_AMEND carry it, its reserved fields apart (R6, R207).
`grants` has as many entries as the image's grant count says. -/
structure CredImage where
  badge : Badge
  cls : Byte
  tenant : Byte
  home : Option Byte
  validFrom : Half
  validTo : Option Half
  quota : Option Byte
  escort : Bool
  accessible : Bool
  trial : Bool
  grants : List Grant
  deriving DecidableEq, Repr

/-- QUOTA_RELOAD {badge, remaining} (R23); the remaining count is carried in two bytes (R207). -/
structure QuotaFields where
  badge : Badge
  remaining : Half
  deriving DecidableEq, Repr

/-- TENANT_CREATE and TENANT_FLOORS {tenant, grants} (R31, R32). -/
structure TenantFields where
  tenant : Byte
  grants : List Grant
  deriving DecidableEq, Repr

/-- OVERLAY_OPEN {slot, tenant} (R43). -/
structure OverlayOpenFields where
  slot : Byte
  tenant : Byte
  deriving DecidableEq, Repr

/-- OVERLAY_EDIT {slot, grants} (R44). -/
structure OverlayEditFields where
  slot : Byte
  grants : List Grant
  deriving DecidableEq, Repr

/-- OVERLAY_APPLY {slot, scope} (R45); scope 0 ALL, 1 TRIAL (R204). -/
structure OverlayApplyFields where
  slot : Byte
  scope : Byte
  deriving DecidableEq, Repr

/-- CAL_SET {day, minute} (R55). -/
structure CalFields where
  day : Half
  minute : Half
  deriving DecidableEq, Repr

/-- SCHED_SET {schedule, windows} (R61). -/
structure SchedFields where
  schedule : Byte
  windows : List Window
  deriving DecidableEq, Repr

/-- PARAM_SET {parameter, value} (R67); parameter 0 to 8 in the order of R66 (R204). -/
structure ParamFields where
  parameter : Byte
  value : Byte
  deriving DecidableEq, Repr

/-- LANDING_SET {low landing, high landing, kind} (R71); kind 0 PUBLIC … 5 CLOSED in R70's order (R204). -/
structure LandingFields where
  low : Byte
  high : Byte
  kind : Byte
  deriving DecidableEq, Repr

/-- GROUP_SET {group, served ranges, recall landing} (R73). -/
structure GroupFields where
  group : Byte
  ranges : List LandingRange
  recallLanding : Byte
  deriving DecidableEq, Repr

/-- TRANSFER_SET {position, first group, transfer landing, second group} (R77). -/
structure TransferFields where
  position : Byte
  first : Byte
  landing : Byte
  second : Byte
  deriving DecidableEq, Repr

/-- PANEL_SET in its two forms (R80, R81). A drop is carried as one byte, link in bits 6 to 4, address in bits 3 to 0 (R204). -/
inductive PanelFields where
  | configure (drop kind landing : Byte) (groups : Set8)
  | unconfigure (drop : Byte)
  deriving DecidableEq, Repr

/-- TICKET_READ in its two forms (R148). -/
inductive TicketQuery where
  | byBadge (badge : Badge)
  | byOrdinal (ordinal : Half)
  deriving DecidableEq, Repr

/-- CALL_READ in its two forms (R194). -/
inductive CallQuery where
  | bySlot (slot : Byte)
  | byNumber (number : Half)
  deriving DecidableEq, Repr

/-- ALARM_SET {line, enable, polarity, type, debounce, function, demand mode, demand group set} (R170): FFh is an absent
demand mode and 0 an absent group set (R204). -/
structure AlarmFields where
  line : Byte
  enable : Byte
  polarity : Byte
  type : Byte
  debounce : Byte
  function : Byte
  mode : Byte
  groups : Set8
  deriving DecidableEq, Repr

/-- MODE_DEMAND {group, mode, on or off} (R175). -/
structure DemandFields where
  group : Byte
  mode : Byte
  on : Byte
  deriving DecidableEq, Repr

/-- The body of a command frame of a known kind: its fields, or the mark that its length is not the one its kind
requires or a reserved field is not zero (R186, item 3). -/
inductive Body (α : Type) where
  | read (fields : α)
  | malformed
  deriving DecidableEq, Repr

/-- A request of a panel (R86), its fields as carried and untested. -/
inductive Request where
  | destination (badge : Badge) (landing : Byte)
  | badgeOnly (badge : Badge)
  | anonymous (landing : Byte)
  deriving DecidableEq, Repr

/-- One of the eight links, each with a receiver of its own (R203). -/
inductive Wire where
  | panel (link : Fin 6)
  | dispatcher
  | management
  deriving DecidableEq, Repr

/-- The commands of the part: one constructor for each row of the opcode table, in its order. -/
inductive Instr where
  | credEnrol (tag : Byte) (body : Body CredImage)
  | credAmend (tag : Byte) (body : Body CredImage)
  | credSuspend (tag : Byte) (body : Body Badge)
  | credReinstate (tag : Byte) (body : Body Badge)
  | credRetire (tag : Byte) (body : Body Badge)
  | quotaReload (tag : Byte) (body : Body QuotaFields)
  | credRead (tag : Byte) (body : Body Badge)
  | credNext (tag : Byte) (body : Body Badge)
  | tenantCreate (tag : Byte) (body : Body TenantFields)
  | tenantFloors (tag : Byte) (body : Body TenantFields)
  | tenantSuspend (tag : Byte) (body : Body Byte)
  | tenantReinstate (tag : Byte) (body : Body Byte)
  | tenantPurge (tag : Byte) (body : Body Byte)
  | tenantRead (tag : Byte) (body : Body Byte)
  | overlayOpen (tag : Byte) (body : Body OverlayOpenFields)
  | overlayEdit (tag : Byte) (body : Body OverlayEditFields)
  | overlayApply (tag : Byte) (body : Body OverlayApplyFields)
  | overlayCommit (tag : Byte) (body : Body Byte)
  | overlayDiscard (tag : Byte) (body : Body Byte)
  | overlayRead (tag : Byte) (body : Body Byte)
  | calSet (tag : Byte) (body : Body CalFields)
  | calRead (tag : Byte) (body : Body Unit)
  | holidaySet (tag : Byte) (body : Body (List Half))
  | holidayRead (tag : Byte) (body : Body Unit)
  | schedSet (tag : Byte) (body : Body SchedFields)
  | schedRead (tag : Byte) (body : Body Byte)
  | paramSet (tag : Byte) (body : Body ParamFields)
  | paramRead (tag : Byte) (body : Body Unit)
  | landingSet (tag : Byte) (body : Body LandingFields)
  | landingRead (tag : Byte) (body : Body Unit)
  | groupSet (tag : Byte) (body : Body GroupFields)
  | groupClear (tag : Byte) (body : Body Byte)
  | groupRead (tag : Byte) (body : Body Byte)
  | transferSet (tag : Byte) (body : Body TransferFields)
  | transferClear (tag : Byte) (body : Body Byte)
  | transferRead (tag : Byte) (body : Body Unit)
  | panelSet (tag : Byte) (body : Body PanelFields)
  | panelRead (tag : Byte) (body : Body Byte)
  | ticketRead (tag : Byte) (body : Body TicketQuery)
  | dropRead (tag : Byte) (body : Body Byte)
  | alarmSet (tag : Byte) (body : Body AlarmFields)
  | alarmAck (tag : Byte) (body : Body Set8)
  | alarmRead (tag : Byte) (body : Body Unit)
  | modeDemand (tag : Byte) (body : Body DemandFields)
  | groupResume (tag : Byte) (body : Body Byte)
  | modeRead (tag : Byte) (body : Body Byte)
  | attnAck (tag : Byte) (body : Body Half)
  | attnEnable (tag : Byte) (body : Body Half)
  | attnRead (tag : Byte) (body : Body Unit)
  | statusRead (tag : Byte) (body : Body Unit)
  | callRead (tag : Byte) (body : Body CallQuery)
  | restart (tag : Byte) (body : Body Unit)
  | unknownCommand (kind : Byte) (tag : Byte)
  | commandDuringReply (tag : Byte)
  | managementFrameDiscarded
  | replySent
  | decision
  | callAssigned (number : Half) (car : Byte)
  | callDeclined (number : Half) (code : Byte)
  | callTimerExpiry (number : Half)
  | dispatchAlive (groups : Set8)
  | livenessTimerExpiry
  | dispatcherFrameSent
  | dispatcherFrameDiscarded
  | ticketExpiry (badge : Badge)
  | validReply (link : Fin 6) (address : Fin 16) (request : Option Request)
  | invalidReply (link : Fin 6)
  | replyWindowEnd (link : Fin 6)
  | unsolicitedPanelFrame (link : Fin 6)
  | frameGapTimeout (wire : Wire)
  | repeatMemoryEnd (drop : Fin 96)
  | escortWindowEnd (drop : Fin 96)
  | rawLevelChange (line : Fin 8) (high : Bool)
  | debounceEnd (line : Fin 8)
  | purgeVisit
  | sweepVisit
  | secondAdvance
  | minuteAdvance
  | dayRollover
  | startConditionBegins
  | startConditionCeases (mainOk resetReleased : Bool)
  | startSequence (levels : Set8)
  | retentionPowerGain
  | retentionSupplyLoss
  | pollSent (link : Fin 6)
  | frameStart (wire : Wire)
  deriving DecidableEq, Repr

end Sys2Proof
end

