-- ==== Sys2Proof/WellFormed.lean ====
section
/-! DEFINITION. WellFormed.lean: which terms of Instr stand for something a link or a pin can bring. Every meaning is
total all the same. -/

namespace Sys2Proof

/-- The first kind code that names no command: the commands are numbered 01h to 34h (R207). -/
abbrev firstFreeKind : Nat := 0x35

/-- A kind that names a command of the catalogue (R186, R207). -/
def namesCommand (kind : Byte) : Bool := decide (0 < kind.toNat) && decide (kind.toNat < firstFreeKind)

/-- The test of a body that was read; a malformed body has nothing to test. -/
def Body.all {α : Type} (test : α → Bool) : Body α → Bool
  | .read a => test a
  | .malformed => true

/-- A list whose count fits its count byte (R204). -/
def countFits {α : Type} (l : List α) : Bool := decide (l.length ≤ 255)

/-- A window list that fits a frame of at most 1024 bytes of kind and body (R203, R204). -/
def windowsFit (l : List Window) : Bool := decide (l.length ≤ 204)

/-- A drop byte whose reserved bit 7 is zero (R204). -/
def dropByteOk (d : Byte) : Bool := decide (d.toNat < 128)

/-- A car a CALL_ASSIGNED may carry: FFh is not well formed (R117, R206). -/
def carOk (car : Byte) : Bool := decide (car ≠ 0xFF#8)

/-- A code a CALL_DECLINED may carry: bits 7 to 4 zero (R206). -/
def codeOk (code : Byte) : Bool := decide (code.toNat < 16)

/-- The well-formed commands. -/
def Instr.wellFormed : Instr → Bool
  | .credEnrol _ b => b.all fun i => countFits i.grants
  | .credAmend _ b => b.all fun i => countFits i.grants
  | .credSuspend _ _ => true
  | .credReinstate _ _ => true
  | .credRetire _ _ => true
  | .quotaReload _ _ => true
  | .credRead _ _ => true
  | .credNext _ _ => true
  | .tenantCreate _ b => b.all fun f => countFits f.grants
  | .tenantFloors _ b => b.all fun f => countFits f.grants
  | .tenantSuspend _ _ => true
  | .tenantReinstate _ _ => true
  | .tenantPurge _ _ => true
  | .tenantRead _ _ => true
  | .overlayOpen _ _ => true
  | .overlayEdit _ b => b.all fun f => countFits f.grants
  | .overlayApply _ _ => true
  | .overlayCommit _ _ => true
  | .overlayDiscard _ _ => true
  | .overlayRead _ _ => true
  | .calSet _ _ => true
  | .calRead _ _ => true
  | .holidaySet _ b => b.all countFits
  | .holidayRead _ _ => true
  | .schedSet _ b => b.all fun f => windowsFit f.windows
  | .schedRead _ _ => true
  | .paramSet _ _ => true
  | .paramRead _ _ => true
  | .landingSet _ _ => true
  | .landingRead _ _ => true
  | .groupSet _ b => b.all fun f => countFits f.ranges
  | .groupClear _ _ => true
  | .groupRead _ _ => true
  | .transferSet _ _ => true
  | .transferClear _ _ => true
  | .transferRead _ _ => true
  | .panelSet _ b => b.all fun f => match f with
    | .configure d _ _ _ => dropByteOk d
    | .unconfigure d => dropByteOk d
  | .panelRead _ b => b.all dropByteOk
  | .ticketRead _ _ => true
  | .dropRead _ b => b.all dropByteOk
  | .alarmSet _ _ => true
  | .alarmAck _ _ => true
  | .alarmRead _ _ => true
  | .modeDemand _ _ => true
  | .groupResume _ _ => true
  | .modeRead _ _ => true
  | .attnAck _ _ => true
  | .attnEnable _ _ => true
  | .attnRead _ _ => true
  | .statusRead _ _ => true
  | .callRead _ _ => true
  | .restart _ _ => true
  | .unknownCommand kind _ => !namesCommand kind
  | .commandDuringReply _ => true
  | .managementFrameDiscarded => true
  | .replySent => true
  | .decision => true
  | .callAssigned _ car => carOk car
  | .callDeclined _ code => codeOk code
  | .callTimerExpiry _ => true
  | .dispatchAlive _ => true
  | .livenessTimerExpiry => true
  | .dispatcherFrameSent => true
  | .dispatcherFrameDiscarded => true
  | .ticketExpiry _ => true
  | .validReply _ _ _ => true
  | .invalidReply _ => true
  | .replyWindowEnd _ => true
  | .unsolicitedPanelFrame _ => true
  | .frameGapTimeout _ => true
  | .repeatMemoryEnd _ => true
  | .escortWindowEnd _ => true
  | .rawLevelChange _ _ => true
  | .debounceEnd _ => true
  | .purgeVisit => true
  | .sweepVisit => true
  | .secondAdvance => true
  | .minuteAdvance => true
  | .dayRollover => true
  | .startConditionBegins => true
  | .startConditionCeases mainOk resetReleased => !(mainOk && resetReleased)
  | .startSequence _ => true
  | .retentionPowerGain => true
  | .retentionSupplyLoss => true
  | .pollSent _ => true
  | .frameStart _ => true

end Sys2Proof
end

