-- ==== Sys2Proof/Decode.lean ====
section
/-! DEFINITION. Decode.lean: the table gives no row bits, so no word spells a command. Beside that, the frames the part
RECEIVES (chapter 12): the envelope and its check, the receiver of a link, and the command a received frame spells. -/

namespace Sys2Proof

/-- No row of the opcode table gives bits: no word spells a command. -/
def decodeTableWord (_nbits _w : Nat) : Option Instr := none

/-! ## The envelope and the check (R203) -/

/-- Two bytes as one number, most significant byte first (R204). -/
def be16 (hi lo : Byte) : Half := hi ++ lo

/-- Five bytes as a badge number, most significant byte first (R204). -/
def be40 (a b c d e : Byte) : Badge := a ++ b ++ c ++ d ++ e

/-- The two bytes of a number, most significant byte first (R204). -/
def bytes16 (h : Half) : List Byte := [h.extractLsb' 8 8, h.extractLsb' 0 8]

/-- One bit of the check sequence: generator polynomial 1021h, most significant bit first (R203). -/
def crcBit (crc : Half) : Half := if crc.msb then (crc <<< 1) ^^^ 0x1021#16 else crc <<< 1

/-- `n` bits of the check sequence. -/
def crcBits : Nat → Half → Half
  | 0, crc => crc
  | n + 1, crc => crcBits n (crcBit crc)

/-- One byte of the check sequence. -/
def crcByte (crc : Half) (b : Byte) : Half := crcBits 8 (crc ^^^ (b ++ 0#8))

/-- The check sequence: initial value FFFFh, no final inversion (R203). -/
def checkSequence (bytes : List Byte) : Half := bytes.foldl crcByte 0xFFFF#16

/-- The greatest length of kind and body (R203). -/
abbrev maxLength : Nat := 1024

/-- A length a frame may carry: 1 to 1024 (R203). -/
def lengthOk (n : Nat) : Bool := decide (1 ≤ n) && decide (n ≤ maxLength)

/-- The frame of a kind and body as the part sends it: start byte, length, kind, body, check (R203). -/
def envelope (kind : Byte) (body : List Byte) : List Byte :=
  let inner := bytes16 (BitVec.ofNat 16 (body.length + 1)) ++ kind :: body
  0x7E#8 :: (inner ++ bytes16 (checkSequence inner))

/-- The kind and body of a frame's bytes after the start byte, when it passes its check (R203). -/
def openFrame : List Byte → Option (Byte × List Byte)
  | l1 :: l2 :: kind :: rest =>
    let n := (be16 l1 l2).toNat
    if lengthOk n && decide (rest.length = n + 1) &&
        decide (rest.drop (n - 1) = bytes16 (checkSequence (l1 :: l2 :: kind :: rest.take (n - 1)))) then
      some (kind, rest.take (n - 1))
    else none
  | _ => none

/-- A link's receiver, byte by byte (R203): hunting, or receiving with the bytes taken since the start byte. -/
inductive Receiver where
  | hunting
  | receiving (got : List Byte)
  deriving DecidableEq, Repr

/-- Whether the bytes taken since the start byte make a whole frame: a length of 0 or above 1024 ends the frame with its
second length byte, any other with the last check byte (R203). -/
def frameEnded : List Byte → Bool
  | l1 :: l2 :: rest =>
    let n := (be16 l1 l2).toNat
    if lengthOk n then decide (n + 2 ≤ rest.length) else true
  | _ => false

/-- The receiver takes one byte: its next state and, when the byte ends a frame, that frame's bytes after the start
byte (R203). A 7Eh inside a frame is data. -/
def Receiver.take (r : Receiver) (b : Byte) : Receiver × Option (List Byte) :=
  match r with
  | .hunting => if b = 0x7E#8 then (.receiving [], none) else (.hunting, none)
  | .receiving got =>
    if frameEnded (got ++ [b]) then (.hunting, some (got ++ [b])) else (.receiving (got ++ [b]), none)

/-! ## Readers of the bodies (R204, R207) -/

/-- `count` grants of three bytes each. -/
def readGrants : Nat → List Byte → Option (List Grant)
  | 0, [] => some []
  | n + 1, a :: b :: c :: t => (readGrants n t).map (⟨a, b, c⟩ :: ·)
  | _, _ => none

/-- `count` windows of five bytes each. -/
def readWindows : Nat → List Byte → Option (List Window)
  | 0, [] => some []
  | n + 1, d :: a :: b :: c :: e :: t => (readWindows n t).map (⟨d, be16 a b, be16 c e⟩ :: ·)
  | _, _ => none

/-- `count` served ranges of two bytes each. -/
def readRanges : Nat → List Byte → Option (List LandingRange)
  | 0, [] => some []
  | n + 1, a :: b :: t => (readRanges n t).map (⟨a, b⟩ :: ·)
  | _, _ => none

/-- `count` day numbers of two bytes each. -/
def readDays : Nat → List Byte → Option (List Half)
  | 0, [] => some []
  | n + 1, a :: b :: t => (readDays n t).map (be16 a b :: ·)
  | _, _ => none

/-- A body read or found malformed. -/
def Body.of {α : Type} : Option α → Body α
  | some a => .read a
  | none => .malformed

/-- A body of no parameters. -/
def readNothing : List Byte → Option Unit
  | [] => some ()
  | _ => none

/-- A body of one byte. -/
def readByte : List Byte → Option Byte
  | [a] => some a
  | _ => none

/-- A body of one drop byte, whose bit 7 is reserved (R204). -/
def readDrop : List Byte → Option Byte
  | [a] => if dropByteOk a then some a else none
  | _ => none

/-- A body of one two-byte number. -/
def readHalf : List Byte → Option Half
  | [a, b] => some (be16 a b)
  | _ => none

/-- A body of one badge number. -/
def readBadge : List Byte → Option Badge
  | [a, b, c, d, e] => some (be40 a b c d e)
  | _ => none

/-- The four grant places of an image as a list of as many grants as its count says; a count above four has no places
of its own and is refused by the command (R6, R207). -/
def placesGrants (count : Byte) (places : List Grant) : List Grant :=
  places.take count.toNat ++ List.replicate (count.toNat - places.length) ⟨0, 0, 0⟩

/-- The grant places beyond the count are zero (R207). -/
def placesZero (count : Byte) (places : List Grant) : Bool :=
  (places.drop count.toNat).all fun g => decide (g = ⟨0, 0, 0⟩)

/-- The credential image of CRED_ENROL and CRED_AMEND, its reserved fields tested (R207). -/
def readImage : List Byte → Option CredImage
  | [b0, b1, b2, b3, b4, cls, tenant, presence, home, f1, f2, t1, t2, quota, flags, state, reserved, count,
      g0, g1, g2, g3, g4, g5, g6, g7, g8, g9, g10, g11] =>
    let places : List Grant := [⟨g0, g1, g2⟩, ⟨g3, g4, g5⟩, ⟨g6, g7, g8⟩, ⟨g9, g10, g11⟩]
    let hasHome := presence.getLsbD 0
    let hasTo := presence.getLsbD 1
    let hasQuota := presence.getLsbD 2
    if presence &&& 0xF8#8 = 0 ∧ flags &&& 0xF8#8 = 0 ∧ state = 0 ∧ reserved = 0 ∧
        (hasHome = true ∨ home = 0) ∧ (hasTo = true ∨ (t1 = 0 ∧ t2 = 0)) ∧ (hasQuota = true ∨ quota = 0) ∧
        placesZero count places = true then
      some { badge := be40 b0 b1 b2 b3 b4, cls := cls, tenant := tenant
             home := if hasHome then some home else none
             validFrom := be16 f1 f2
             validTo := if hasTo then some (be16 t1 t2) else none
             quota := if hasQuota then some quota else none
             escort := flags.getLsbD 0, accessible := flags.getLsbD 1, trial := flags.getLsbD 2
             grants := placesGrants count places }
    else none
  | _ => none

/-- QUOTA_RELOAD: the badge, then the remaining count in two bytes (R207). -/
def readQuota : List Byte → Option QuotaFields
  | [a, b, c, d, e, r1, r2] => some ⟨be40 a b c d e, be16 r1 r2⟩
  | _ => none

/-- A tenant or slot byte, then a grant list. -/
def readNumberGrants : List Byte → Option (Byte × List Grant)
  | n :: count :: t => (readGrants count.toNat t).map (n, ·)
  | _ => none

/-- PANEL_SET: {drop, kind, landing, group set}, or {drop, 0} to remove the configuration (R80, R81; log 17). -/
def readPanel : List Byte → Option PanelFields
  | [d, flag] => if dropByteOk d && decide (flag = 0) then some (.unconfigure d) else none
  | [d, kind, landing, groups] => if dropByteOk d then some (.configure d kind landing groups) else none
  | _ => none

/-- TICKET_READ: form byte 0 and a badge, or 1 and an ordinal (R207). -/
def readTicketQuery : List Byte → Option TicketQuery
  | [f, a, b, c, d, e] => if f = 0 then some (.byBadge (be40 a b c d e)) else none
  | [f, a, b] => if f = 1 then some (.byOrdinal (be16 a b)) else none
  | _ => none

/-- CALL_READ: form byte 0 and a slot, or 1 and a call number (R207). -/
def readCallQuery : List Byte → Option CallQuery
  | [f, a] => if f = 0 then some (.bySlot a) else none
  | [f, a, b] => if f = 1 then some (.byNumber (be16 a b)) else none
  | _ => none

/-- The parameters of a body that begins with a tag; a body without one is too short for any command (R186, R207). -/
def parameters {α : Type} (reader : List Byte → Option α) : List Byte → Body α
  | [] => .malformed
  | _ :: ps => Body.of (reader ps)

/-- The tag of a body, or the open value where there is none (log 20). -/
def tagOf (n : Nat) : List Byte → Byte
  | [] => Config.untaggedTag n
  | t :: _ => t

/-- The command a well-checked management frame spells; `n` numbers the frames too short to carry a tag.
The kinds run from 01h upward in the order of the catalogue of section 10.2 (R207). -/
def managementCommand (n : Nat) (kind : Byte) (body : List Byte) : Instr :=
  let tag := tagOf n body
  match kind.toNat with
  | 0x01 => .credEnrol tag (parameters readImage body)
  | 0x02 => .credAmend tag (parameters readImage body)
  | 0x03 => .credSuspend tag (parameters readBadge body)
  | 0x04 => .credReinstate tag (parameters readBadge body)
  | 0x05 => .credRetire tag (parameters readBadge body)
  | 0x06 => .quotaReload tag (parameters readQuota body)
  | 0x07 => .credRead tag (parameters readBadge body)
  | 0x08 => .credNext tag (parameters readBadge body)
  | 0x09 => .tenantCreate tag (parameters (fun l => (readNumberGrants l).map fun p => ⟨p.1, p.2⟩) body)
  | 0x0A => .tenantFloors tag (parameters (fun l => (readNumberGrants l).map fun p => ⟨p.1, p.2⟩) body)
  | 0x0B => .tenantSuspend tag (parameters readByte body)
  | 0x0C => .tenantReinstate tag (parameters readByte body)
  | 0x0D => .tenantPurge tag (parameters readByte body)
  | 0x0E => .tenantRead tag (parameters readByte body)
  | 0x0F => .overlayOpen tag (parameters (fun l => match l with | [s, t] => some ⟨s, t⟩ | _ => none) body)
  | 0x10 => .overlayEdit tag (parameters (fun l => (readNumberGrants l).map fun p => ⟨p.1, p.2⟩) body)
  | 0x11 => .overlayApply tag (parameters (fun l => match l with | [s, t] => some ⟨s, t⟩ | _ => none) body)
  | 0x12 => .overlayCommit tag (parameters readByte body)
  | 0x13 => .overlayDiscard tag (parameters readByte body)
  | 0x14 => .overlayRead tag (parameters readByte body)
  | 0x15 => .calSet tag (parameters (fun l => match l with | [a, b, c, d] => some ⟨be16 a b, be16 c d⟩ | _ => none) body)
  | 0x16 => .calRead tag (parameters readNothing body)
  | 0x17 => .holidaySet tag (parameters (fun l => match l with | c :: t => readDays c.toNat t | [] => none) body)
  | 0x18 => .holidayRead tag (parameters readNothing body)
  | 0x19 => .schedSet tag (parameters (fun l => match l with
      | s :: c :: t => (readWindows c.toNat t).map (⟨s, ·⟩) | _ => none) body)
  | 0x1A => .schedRead tag (parameters readByte body)
  | 0x1B => .paramSet tag (parameters (fun l => match l with | [p, v] => some ⟨p, v⟩ | _ => none) body)
  | 0x1C => .paramRead tag (parameters readNothing body)
  | 0x1D => .landingSet tag (parameters (fun l => match l with | [a, b, k] => some ⟨a, b, k⟩ | _ => none) body)
  | 0x1E => .landingRead tag (parameters readNothing body)
  | 0x1F => .groupSet tag (parameters (fun l => match l with
      | g :: c :: t => (readRanges c.toNat t.dropLast).bind fun rs => t.getLast?.map (⟨g, rs, ·⟩) | _ => none) body)
  | 0x20 => .groupClear tag (parameters readByte body)
  | 0x21 => .groupRead tag (parameters readByte body)
  | 0x22 => .transferSet tag (parameters (fun l => match l with | [p, a, b, c] => some ⟨p, a, b, c⟩ | _ => none) body)
  | 0x23 => .transferClear tag (parameters readByte body)
  | 0x24 => .transferRead tag (parameters readNothing body)
  | 0x25 => .panelSet tag (parameters readPanel body)
  | 0x26 => .panelRead tag (parameters readDrop body)
  | 0x27 => .ticketRead tag (parameters readTicketQuery body)
  | 0x28 => .dropRead tag (parameters readDrop body)
  | 0x29 => .alarmSet tag (parameters (fun l => match l with
      | [a, b, c, d, e, f, g, h] => some ⟨a, b, c, d, e, f, g, h⟩ | _ => none) body)
  | 0x2A => .alarmAck tag (parameters readByte body)
  | 0x2B => .alarmRead tag (parameters readNothing body)
  | 0x2C => .modeDemand tag (parameters (fun l => match l with | [g, m, o] => some ⟨g, m, o⟩ | _ => none) body)
  | 0x2D => .groupResume tag (parameters readByte body)
  | 0x2E => .modeRead tag (parameters readByte body)
  | 0x2F => .attnAck tag (parameters readHalf body)
  | 0x30 => .attnEnable tag (parameters readHalf body)
  | 0x31 => .attnRead tag (parameters readNothing body)
  | 0x32 => .statusRead tag (parameters readNothing body)
  | 0x33 => .callRead tag (parameters readCallQuery body)
  | 0x34 => .restart tag (parameters readNothing body)
  | _ => .unknownCommand kind tag

/-- The command a well-checked dispatcher frame spells; one that is not well formed is discarded (R206, R208). -/
def dispatcherCommand (kind : Byte) (body : List Byte) : Instr :=
  match kind.toNat, body with
  | 0x30, [n1, n2, car] => if carOk car then .callAssigned (be16 n1 n2) car else .dispatcherFrameDiscarded
  | 0x31, [n1, n2, code] => if codeOk code then .callDeclined (be16 n1 n2) code else .dispatcherFrameDiscarded
  | 0x32, [set] => .dispatchAlive set
  | _, _ => .dispatcherFrameDiscarded

/-- The request of a REPLY body, or none where the request kind and the fields it marks zero do not agree (R205). -/
def readRequest : List Byte → Option (Option Request)
  | [k, a, b, c, d, e, landing] =>
    let badge := be40 a b c d e
    match k.toNat with
    | 0 => if badge = 0 ∧ landing = 0 then some none else none
    | 1 => some (some (.destination badge landing))
    | 2 => if landing = 0 then some (some (.badgeOnly badge)) else none
    | 3 => if badge = 0 then some (some (.anonymous landing)) else none
    | _ => none
  | _ => none

/-- The command a well-checked panel frame spells: a well-formed REPLY, or a frame that is none (R153, R205, R208). -/
def panelCommand (link : Fin 6) (kind : Byte) (body : List Byte) : Instr :=
  match kind.toNat, body with
  | 0x11, address :: rest =>
    if h : address.toNat < 16 then
      match readRequest rest with
      | some r => .validReply link ⟨address.toNat, h⟩ r
      | none => .invalidReply link
    else .invalidReply link
  | _, _ => .invalidReply link

/-- The command that a frame received on a link spells, given its bytes after the start byte (R203, R208). A frame that
fails its check is discarded, and on a panel link it is a frame that is no valid reply. -/
def frameCommand (wire : Wire) (n : Nat) (bytes : List Byte) : Instr :=
  match wire, openFrame bytes with
  | .management, some (kind, body) => managementCommand n kind body
  | .management, none => .managementFrameDiscarded
  | .dispatcher, some (kind, body) => dispatcherCommand kind body
  | .dispatcher, none => .dispatcherFrameDiscarded
  | .panel link, some (kind, body) => panelCommand link kind body
  | .panel link, none => .invalidReply link

end Sys2Proof
end

