-- ==== Sys2Proof/Machine/State.lean ====
section
/-! DEFINITION. Machine/State.lean: every piece of state the manual gives the part, as plain data, and its value after
reset. Retention-well state is `Retention` (R196), main-well state is `Main`; main-well state is void, so absent, unless
the main well is RUNNING (R198, R199). -/

namespace Sys2Proof.Machine

/-- A table of the part: (key, value) pairs with keys strictly rising. Where a key has a default value no pair holds it,
so that equal tables are equal data. -/
abbrev Table (α : Type) := List (Nat × α)

/-! ## Credential Store (chapter 1) -/

/-- The state of a credential record (R5), in the order of its codes (R207). -/
inductive CredState where
  | active | suspended | exhausted
  deriving DecidableEq, Repr

/-- The class of a badge holder (R2), in the order of its codes (R207). -/
inductive CredClass where
  | staff | visitor | service | security
  deriving DecidableEq, Repr

/-- A credential record, its badge apart, which is its key in the table (R2). -/
structure Cred where
  state : CredState
  cls : CredClass
  tenant : Byte
  home : Option Byte
  grants : List Grant
  validFrom : Half
  validTo : Option Half
  quota : Option Byte
  reserved : Bool
  escort : Bool
  accessible : Bool
  trial : Bool
  deriving DecidableEq, Repr

/-! ## Tenant Store (chapter 2) -/

/-- The state of a present tenant (R28). -/
inductive TenantState where
  | live | suspended | purging
  deriving DecidableEq, Repr

/-- A present tenant record (R28); a FREE entry is absent from the table. -/
structure Tenant where
  state : TenantState
  grants : List Grant
  count : Nat
  deriving DecidableEq, Repr

/-- The purge walker (R38): activity, tenant being purged, position (a badge number, 0 before the lowest badge). -/
structure PurgeWalker where
  running : Bool
  tenant : Byte
  position : Nat
  deriving DecidableEq, Repr

/-- The scope of an APPLIED overlay (R41). -/
inductive Scope where
  | all | trial
  deriving DecidableEq, Repr

/-- An overlay slot in use (R41): OPEN with no scope, APPLIED with one. A FREE slot is absent from the table. -/
structure Overlay where
  tenant : Byte
  grants : List Grant
  scope : Option Scope
  deriving DecidableEq, Repr

/-! ## Calendar and Schedule Unit (chapter 3) -/

/-- The calendar (R52): VALID or INVALID, day number, minute of day, second count. -/
structure Calendar where
  valid : Bool
  day : Half
  minute : Nat
  second : Nat
  deriving DecidableEq, Repr

/-- The day types (R57), in the order of their bits and codes (R204). -/
inductive DayType where
  | mon | tue | wed | thu | fri | sat | sun | hol
  deriving DecidableEq, Repr

/-- The sweep walker (R62). -/
structure SweepWalker where
  running : Bool
  day : Half
  position : Nat
  count : Nat
  lastCount : Nat
  deriving DecidableEq, Repr

/-- The nine parameters (R66), in the order of the table. -/
inductive Param where
  | callTimeout | ticketLifetime | escortWindow | repeatWindow | livenessTimeout
  | missLimit | dropQualify | linkQualify | sweepGrace
  deriving DecidableEq, Repr

/-- The parameter set (R66). -/
structure Params where
  callTimeout : Nat
  ticketLifetime : Nat
  escortWindow : Nat
  repeatWindow : Nat
  livenessTimeout : Nat
  missLimit : Nat
  dropQualify : Nat
  linkQualify : Nat
  sweepGrace : Nat
  deriving DecidableEq, Repr

/-- The defaults of R66. -/
def Params.defaults : Params := ⟨40, 20, 30, 8, 30, 3, 8, 3, 7⟩

/-! ## Building Map (chapter 4) -/

/-- The kinds of a landing (R70), in the order of their codes (R204). -/
inductive LandingKind where
  | publicLanding | sky | tenant | secure | plant | closed
  deriving DecidableEq, Repr

/-- A configured group (R72); an unconfigured one is absent from the table. -/
structure GroupEntry where
  ranges : List LandingRange
  recallLanding : Byte
  deriving DecidableEq, Repr

/-- A transfer entry (R76); an empty position is absent from the table. -/
structure Transfer where
  first : Byte
  landing : Byte
  second : Byte
  deriving DecidableEq, Repr

/-- The kind of a drop (R79). -/
inductive DropKind where
  | lobby | sky
  deriving DecidableEq, Repr

/-- A configured drop (R79); an unconfigured one is absent from the table. -/
structure DropConfig where
  kind : DropKind
  landing : Byte
  groups : Set8
  deriving DecidableEq, Repr

/-! ## Service Mode Unit (chapter 9) -/

/-- The effective modes, and the modes a demand may ask for (all but NORMAL); in the order of their codes (R204). -/
inductive Mode where
  | normal | opened | lockdown | recalled
  deriving DecidableEq, Repr

/-- The polarity of an alarm line (R169). -/
inductive Polarity where
  | activeHigh | activeLow
  deriving DecidableEq, Repr

/-- The type of an alarm line (R169). -/
inductive LineType where
  | level | edge
  deriving DecidableEq, Repr

/-- The function of an alarm line; a demand mode and group set are present exactly with DEMAND (R169). -/
inductive LineFunction where
  | none
  | attention
  | demand (mode : Mode) (groups : Set8)
  deriving DecidableEq, Repr

/-- The configuration of an alarm line (R169). -/
structure LineConfig where
  enabled : Bool
  polarity : Polarity
  type : LineType
  debounce : Nat
  function : LineFunction
  deriving DecidableEq, Repr

/-- The default configuration (R169, R182). -/
def LineConfig.defaults : LineConfig := ⟨false, .activeLow, .level, 2, .none⟩

/-- A line's live state (R171): raw level and debounced level (true is high), and the end of a running debounce timer. -/
structure LineLive where
  raw : Bool
  debounced : Bool
  timer : Option Nat
  deriving DecidableEq, Repr

/-- The live state a line's entry has when the table lists none: both levels high, timer stopped. -/
def LineLive.quiet : LineLive := ⟨true, true, none⟩

/-- The three management demand marks of a group (R175). -/
structure Marks where
  opened : Bool
  lockdown : Bool
  recalled : Bool
  deriving DecidableEq, Repr

/-- Every mark off. -/
def Marks.off : Marks := ⟨false, false, false⟩

/-! ## Answers to panels (chapters 5 and 6) -/

/-- The reasons of DENIED (R111), in the order of their codes (R205). -/
inductive Denial where
  | calendarInvalid | unknownBadge | suspended | tenantSuspended | notYetValid | expired | badgeInCall
  | modeRecall | modeLockdown | quotaExhausted | noDestination | noRoute | noTicket | badgeNeeded
  | notPermitted | outOfSchedule | escortRequired | ticketPoolFull
  deriving DecidableEq, Repr

/-- The reasons of NO_SERVICE (R111), in the order of their codes (R205); DECLINED carries the dispatcher's code. -/
inductive NoService where
  | dispatcherDown | groupOut | callsFull | timeout
  | declined (code : Byte)
  | cancelled
  deriving DecidableEq, Repr

/-- The answers (R111). -/
inductive Answer where
  | granted (group car firstDest : Byte) (finalDest : Option Byte)
  | again (group car dest : Byte)
  | denied (why : Denial)
  | noService (why : NoService)
  | busy
  deriving DecidableEq, Repr

/-- An entry of an answer list: the answer and its carried mark (R152, R162). -/
structure AnswerEntry where
  answer : Answer
  carried : Bool
  deriving DecidableEq, Repr

/-! ## Panel Link Controllers (chapter 8) -/

/-- The live state of a drop (R154), in the order of its codes (R204). -/
inductive DropState where
  | unconfigured | down | qualifying | up
  deriving DecidableEq, Repr

/-- A repeat memory's entry and end (R164). -/
structure RepeatMemory where
  badge : Badge
  dest : Byte
  group : Byte
  car : Byte
  time : Nat
  ends : Nat
  deriving DecidableEq, Repr

/-- An escort window's entry, admitted count and end (R165). -/
structure EscortWindow where
  tenant : Byte
  dest : Byte
  group : Byte
  car : Byte
  opened : Nat
  admitted : Nat
  ends : Nat
  deriving DecidableEq, Repr

/-- What a Panel Link Controller holds for one drop (R154, R159, R162, R164, R165). -/
structure DropLive where
  state : DropState
  qualifyRun : Nat
  missRun : Nat
  queue : List Request
  answers : List AnswerEntry
  memory : Option RepeatMemory
  escort : Option EscortWindow
  deriving DecidableEq, Repr

/-- A drop in the given live state, holding nothing, both runs 0 (R82, R154, R157). -/
def DropLive.emptied (state : DropState) : DropLive := ⟨state, 0, 0, [], [], none, none⟩

/-- The live state of an unconfigured drop (R154): what an unlisted drop holds. -/
def DropLive.unconfigured : DropLive := .emptied .unconfigured

/-- An outstanding poll (R152, R153): the address polled, the answer it carries with the AGAIN indication, and whether
its last byte has been sent, so that the reply window runs. -/
structure Poll where
  address : Nat
  answer : Option Answer
  again : Bool
  windowRunning : Bool
  deriving DecidableEq, Repr

/-- A panel link (R151): its poll position, absent before address 0, and its outstanding poll. -/
structure PanelLink where
  position : Option Nat
  poll : Option Poll
  deriving DecidableEq, Repr

/-- A panel link before its first poll (R151). -/
def PanelLink.fresh : PanelLink := ⟨none, none⟩

/-! ## Call Table and Dispatcher Link Controller (chapter 6) -/

/-- A call in flight (R110, R116). The drop is numbered link × 16 + address. Its linked ticket is the ticket whose link
names it (log 14). -/
structure Call where
  number : Half
  drop : Nat
  badge : Option Badge
  group : Byte
  origin : Byte
  firstDest : Byte
  finalDest : Option Byte
  accessible : Bool
  claim : Bool
  car : Option Byte
  charge : Bool
  expiry : Nat
  deriving DecidableEq, Repr

/-- The state of the dispatcher link (R129), in the order of its codes (R204). -/
inductive LinkState where
  | down | qualifying | up
  deriving DecidableEq, Repr

/-- The frames the part sends to the dispatcher (R206). -/
inductive DispatcherFrame where
  | callPlace (number : Half) (group origin dest : Byte) (accessible : Bool) (car : Option Byte)
  | callCancel (number : Half)
  | modeNotice (group : Byte) (mode : Mode) (recallLanding : Option Byte)
  deriving DecidableEq, Repr

/-! ## Ticket Pool (chapter 7) -/

/-- The link of a ticket: the number and slot of a call in flight (R136). -/
structure CallLink where
  number : Half
  slot : Nat
  deriving DecidableEq, Repr

/-- The state of a ticket with the fields it makes present: a link while PENDING or CLAIMED, an expiry while ISSUED or
CLAIMED (R136). -/
inductive TicketState where
  | pending (call : CallLink)
  | issued (expiry : Nat)
  | claimed (expiry : Nat) (call : CallLink)
  deriving DecidableEq, Repr

/-- A transfer ticket (R136). -/
structure Ticket where
  badge : Badge
  landing : Byte
  group : Byte
  dest : Byte
  state : TicketState
  deriving DecidableEq, Repr

/-! ## Management Link Controller (chapter 10) -/

/-- The statuses of a reply (R187), in the order of their codes (R207). -/
inductive Status where
  | done | notFound | exists | tableFull | badValue | wrongState | inOverlay | purging | busy | demandActive
  | overrun | notReady
  deriving DecidableEq, Repr

/-- What ALARM_READ returns of one line (R180). -/
structure LineView where
  config : LineConfig
  raw : Bool
  debounced : Bool
  active : Bool
  timer : Option Nat
  status : Bool
  demands : Bool
  raises : Bool
  deriving DecidableEq, Repr

/-- What TICKET_READ returns of one ticket: its place in the creation order and its fields (R195). -/
structure TicketView where
  ordinal : Nat
  ticket : Ticket
  deriving DecidableEq, Repr

/-- What STATUS_READ returns (R193). -/
structure StatusView where
  now : Nat
  credentials : Nat
  tenants : Nat
  tickets : Nat
  calls : Nat
  drops : List DropState
  link : LinkState
  inService : Set8
  modes : List Mode
  purge : Option (Byte × Nat)
  sweep : Option (Half × Nat × Nat)
  lastSweep : Nat
  deriving DecidableEq, Repr

/-- The results of a reply (R187, and the rule of each command). -/
inductive Results where
  | nothing
  | credState (state : CredState)
  | quota (state : CredState) (remaining : Byte)
  | cred (badge : Badge) (record : Cred)
  | tenant (record : Tenant) (slot : Option (Nat × Overlay)) (position : Option Nat)
  | overlay (slot : Option Overlay)
  | calendarSet (calendar : Calendar) (dayType : Option DayType)
  | calendar (calendar : Calendar) (dayType : Option DayType)
  | holidays (days : List Half)
  | windows (list : List Window)
  | params (set : Params)
  | landings (kinds : List LandingKind)
  | group (entry : Option GroupEntry)
  | transfers (entries : List (Option Transfer))
  | panel (config : Option DropConfig) (state : DropState) (inCall : Bool)
  | tickets (now occupancy : Nat) (list : List TicketView)
  | drop (live : DropLive) (pollOutstanding : Bool) (now : Nat)
  | lineStatuses (statuses : Set8)
  | alarms (lines : List LineView) (now : Nat)
  | mode (mode : Mode)
  | modeOf (latch : Bool) (marks : Marks) (lines : List (Nat × Mode)) (mode : Mode)
  | attention (statuses enables : Half)
  | status (view : StatusView)
  | slotFree
  | call (slot : Nat) (call : Call) (ticket : Option TicketState) (now : Nat)
  | overrun (lastTag count : Byte)
  deriving DecidableEq, Repr

/-- A reply: the kind and tag it answers, its status and its results (R207). -/
structure Reply where
  kind : Byte
  tag : Byte
  status : Status
  results : Results
  deriving DecidableEq, Repr

/-- The state of the management link, with the reply being sent while REPLYING (R184). -/
inductive MgmtState where
  | closed
  | ready
  | replying (reply : Reply)
  deriving DecidableEq, Repr

/-- An entry of the overrun record (R184). -/
structure Overrun where
  first : Byte
  last : Byte
  count : Nat
  deriving DecidableEq, Repr

/-! ## The two wells (chapter 11) -/

/-- The retention well (R196). -/
structure Retention where
  creds : Table Cred
  tenants : Table Tenant
  purge : PurgeWalker
  calendar : Calendar
  holidays : List Half
  schedules : Table (List Window)
  sweep : SweepWalker
  params : Params
  landings : Table LandingKind
  groups : Table GroupEntry
  transfers : Table Transfer
  drops : Table DropConfig
  lines : Table LineConfig
  lineStatus : Set8
  latches : Set8
  retentionLost : Bool
  intact : Bool
  deriving DecidableEq, Repr

/-- The retention well as Power Control sets it after a retention loss (R197). The walker's tenant is DESIGN CHOICE
(log 25). -/
def Retention.afterLoss : Retention where
  creds := []
  tenants := []
  purge := ⟨false, 0, 0⟩
  calendar := ⟨false, 0, 0, 0⟩
  holidays := []
  schedules := []
  sweep := ⟨false, 0, 0, 0, 0⟩
  params := .defaults
  landings := []
  groups := []
  transfers := []
  drops := []
  lines := []
  lineStatus := 0
  latches := 0
  retentionLost := true
  intact := true

/-- The main well. `receiving` marks the links whose receiver is receiving a frame (R203), `late` the panel links on which
that frame was under way when the end of the reply window ended its poll, so that it is discarded (R208; log 31). -/
structure Main where
  now : Nat
  overlays : Table Overlay
  arbiter : Nat
  calls : Table Call
  counter : Half
  link : LinkState
  liveness : Option Nat
  aliveRun : Nat
  inService : Set8
  sendQueue : List DispatcherFrame
  tickets : List Ticket
  drops : Table DropLive
  links : Table PanelLink
  receiving : Set8
  late : Set8
  lines : Table LineLive
  marks : Table Marks
  modes : Table Mode
  mgmt : MgmtState
  overrun : Option Overrun
  panelDown : Bool
  purgeDone : Bool
  sweepDone : Bool
  poolFull : Bool
  enables : Half
  deriving DecidableEq, Repr

/-- The main well before the start sequence fills in what follows the retention well (R201): service time 0, every slot
FREE, the pool empty, the arbiter at 5.15, links and timers at rest, every enable set, the management link READY with an
empty overrun record. -/
def Main.fresh : Main where
  now := 0
  overlays := []
  arbiter := 95
  calls := []
  counter := 0
  link := .down
  liveness := none
  aliveRun := 0
  inService := 0
  sendQueue := []
  tickets := []
  drops := []
  links := []
  receiving := 0
  late := 0
  lines := []
  marks := []
  modes := []
  mgmt := .ready
  overrun := none
  panelDown := false
  purgeDone := false
  sweepDone := false
  poolFull := false
  enables := 0xFFFF

/-- The state of the main well (R198): OFF, QUALIFYING with the qualification timer running, or RUNNING with what it
holds. In OFF and QUALIFYING the main well is void. -/
inductive Well where
  | off
  | qualifying
  | running (main : Main)
  deriving DecidableEq, Repr

/-- The whole part with its pins: MAIN_OK high, the reset input released, the retention supply present; and the commands
waiting, first in, first out. -/
structure State where
  ret : Retention
  well : Well
  mainOk : Bool
  resetReleased : Bool
  retentionSupply : Bool
  pending : List Instr
  deriving DecidableEq, Repr

/-- The part at the end of the first main start after a retention loss, its inputs good and its alarm lines inactive
(R197, R201; log 2). -/
def State.reset : State where
  ret := .afterLoss
  well := .running .fresh
  mainOk := true
  resetReleased := true
  retentionSupply := true
  pending := []

/-- The part when power is first applied (R198): the main well OFF, the start condition not holding, and the retention
well without a supply and without its indication, so that its contents are not read (log 2, log 11). -/
def State.powerApplied : State where
  ret := { Retention.afterLoss with intact := false }
  well := .off
  mainOk := false
  resetReleased := false
  retentionSupply := false
  pending := []

/-- The faults of the part: the manual gives it none. Every event is carried out, refused with a reply status, answered to
the panel or discarded. -/
inductive Fault where
  deriving DecidableEq, Repr

/-- The refusals of the model. -/
inductive Refusal where
  /-- Raised by exec's arm of a command that has no meaning yet; safe. No arm raises it. -/
  | notModelled (mnemonic : String)
  deriving DecidableEq, Repr

/-- The working part: both wells while the main well is RUNNING. Every block reads and writes here. -/
structure Part where
  ret : Retention
  main : Main
  deriving DecidableEq, Repr

end Sys2Proof.Machine
end

