-- ==== Sys2Proof/Machine/Ops.lean ====
section
/-! DEFINITION. Machine/Ops.lean: the operations the blocks share: tables and sets, the views and requests between
blocks, the ways a call ends, the taking of a management command, and what is taken only while the main well runs. -/

namespace Sys2Proof.Machine

/-! ## Tables -/

/-- The value a table holds for a key. -/
def Table.lookup {α : Type} : Table α → Nat → Option α
  | [], _ => none
  | (k, v) :: t, n => if n = k then some v else Table.lookup t n

/-- Put a value at its place in key order, replacing any value there. -/
def Table.put {α : Type} : Table α → Nat → α → Table α
  | [], n, v => [(n, v)]
  | (k, w) :: t, n, v =>
    if n < k then (n, v) :: (k, w) :: t
    else if n = k then (n, v) :: t
    else (k, w) :: Table.put t n v

/-- Take a key out of a table. -/
def Table.erase {α : Type} (t : Table α) (n : Nat) : Table α := t.filter fun e => decide (e.1 ≠ n)

/-- The value of a key, a default where the table lists none. -/
def Table.get {α : Type} (d : α) (t : Table α) (n : Nat) : α := (Table.lookup t n).getD d

/-- Give a key a value; the default is not listed. -/
def Table.set {α : Type} [DecidableEq α] (d : α) (t : Table α) (n : Nat) (v : α) : Table α :=
  if v = d then Table.erase t n else Table.put t n v

/-- Put a value or take the key out. -/
def Table.assign {α : Type} (t : Table α) (n : Nat) : Option α → Table α
  | some v => Table.put t n v
  | none => Table.erase t n

/-- The entry with the least key greater than a number, in a table whose keys rise. -/
def Table.next {α : Type} (t : Table α) (n : Nat) : Option (Nat × α) := t.find? fun e => decide (n < e.1)

/-- A table's keys strictly rise. -/
abbrev Table.sorted {α : Type} (t : Table α) : Prop := t.Pairwise fun a b => a.1 < b.1

/-- The canonical form of a table with a default: keys strictly rise and no entry holds the default. -/
abbrev Table.canonical {α : Type} (d : α) (t : Table α) : Prop := Table.sorted t ∧ ∀ e ∈ t, e.2 ≠ d

/-! ## Sets carried as bits (R204) -/

/-- The bit vector whose bit n is `test n`. -/
def bitsOf : (width : Nat) → (Nat → Bool) → BitVec width
  | 0, _ => 0#0
  | n + 1, test => BitVec.cons (test n) (bitsOf n test)

/-- A number is in a set. -/
def inSet {w : Nat} (s : BitVec w) (n : Nat) : Bool := s.getLsbD n

/-- A set with a number put in or taken out. -/
def setPut {w : Nat} (s : BitVec w) (n : Nat) (b : Bool) : BitVec w := bitsOf w fun k => if k = n then b else inSet s k

/-- The numbers of the eight groups, or of the eight lines, ascending. -/
def eight : List Nat := [0, 1, 2, 3, 4, 5, 6, 7]

/-- A number as a byte. -/
def byte (n : Nat) : Byte := BitVec.ofNat 8 n

/-! ## The working part -/

/-- The state with the working part replaced. -/
def State.withPart (s : State) (p : Part) : State := { s with ret := p.ret, well := .running p.main }

/-- Every frame, line change and event of the main well is lost in OFF and QUALIFYING (R198). -/
def whileRunning (s : State) (f : Part → Part) : Host.Outcome State Fault Refusal :=
  match s.well with
  | .running m => .next (s.withPart (f ⟨s.ret, m⟩))
  | .qualifying => .next s
  | .off => .next s

/-- The credential table replaced. -/
def Part.withCreds (p : Part) (t : Table Cred) : Part := { p with ret := { p.ret with creds := t } }
/-- The tenant table replaced. -/
def Part.withTenants (p : Part) (t : Table Tenant) : Part := { p with ret := { p.ret with tenants := t } }
/-- The overlay slots replaced. -/
def Part.withOverlays (p : Part) (t : Table Overlay) : Part := { p with main := { p.main with overlays := t } }
/-- The call slots replaced. -/
def Part.withCalls (p : Part) (t : Table Call) : Part := { p with main := { p.main with calls := t } }
/-- The ticket pool replaced. -/
def Part.withTickets (p : Part) (l : List Ticket) : Part := { p with main := { p.main with tickets := l } }
/-- The drops' live state replaced. -/
def Part.withDrops (p : Part) (t : Table DropLive) : Part := { p with main := { p.main with drops := t } }
/-- The panel links replaced. -/
def Part.withLinks (p : Part) (t : Table PanelLink) : Part := { p with main := { p.main with links := t } }
/-- The send queue replaced. -/
def Part.withSendQueue (p : Part) (l : List DispatcherFrame) : Part := { p with main := { p.main with sendQueue := l } }
/-- The held effective modes replaced. -/
def Part.withModes (p : Part) (t : Table Mode) : Part := { p with main := { p.main with modes := t } }
/-- The management link's state replaced. -/
def Part.withMgmt (p : Part) (m : MgmtState) : Part := { p with main := { p.main with mgmt := m } }
/-- The recall latches replaced. -/
def Part.withLatches (p : Part) (l : Set8) : Part := { p with ret := { p.ret with latches := l } }
/-- The line statuses replaced. -/
def Part.withLineStatus (p : Part) (l : Set8) : Part := { p with ret := { p.ret with lineStatus := l } }

/-! ## What blocks read of one another -/

/-- The record of a badge (R1). -/
def Part.cred (p : Part) (b : Badge) : Option Cred := Table.lookup p.ret.creds b.toNat

/-- The present record of a tenant (R27); none for a FREE entry and for tenant 0. -/
def Part.tenant (p : Part) (t : Byte) : Option Tenant := Table.lookup p.ret.tenants t.toNat

/-- A tenant is present in the given state. -/
def Part.tenantIs (p : Part) (t : Byte) (st : TenantState) : Bool :=
  match p.tenant t with
  | some r => decide (r.state = st)
  | none => false

/-- Tenant 0 or a LIVE tenant (R36, R118). -/
def Part.tenantLive (p : Part) (t : Byte) : Bool := decide (t = 0) || p.tenantIs t .live

/-- A tenant other than 0 whose entry is FREE (R7, R9). -/
def Part.tenantFree (p : Part) (t : Byte) : Bool := decide (t ≠ 0) && (p.tenant t).isNone

/-- A tenant other than 0 that is PURGING (R7, R9). -/
def Part.tenantPurging (p : Part) (t : Byte) : Bool := decide (t ≠ 0) && p.tenantIs t .purging

/-- The number of the slot in use that names a tenant, with the slot (R36, R41). -/
def Part.overlayOf (p : Part) (t : Byte) : Option (Nat × Overlay) := p.main.overlays.find? fun e => decide (e.2.tenant = t)

/-- The kind of a landing; an unlisted one is CLOSED (R70). -/
def Part.kindOf (p : Part) (landing : Byte) : LandingKind := Table.get .closed p.ret.landings landing.toNat

/-- A landing lies in a list of ranges (R72). -/
def inRanges (ranges : List LandingRange) (landing : Byte) : Bool :=
  ranges.any fun r => decide (r.low ≤ landing) && decide (landing ≤ r.high)

/-- A configured group serves a landing (R72); an unconfigured one serves none. -/
def Part.serves (p : Part) (group landing : Byte) : Bool :=
  match Table.lookup p.ret.groups group.toNat with
  | some g => inRanges g.ranges landing
  | none => false

/-- The window list of a schedule 1 to 63 (R59). -/
def Part.windowsOf (p : Part) (schedule : Nat) : List Window := Table.get [] p.ret.schedules schedule

/-- The configuration of a line (R169). -/
def Part.lineConfig (p : Part) (n : Nat) : LineConfig := Table.get .defaults p.ret.lines n

/-- The live state of a line (R171). -/
def Part.lineLive (p : Part) (n : Nat) : LineLive := Table.get .quiet p.main.lines n

/-- The management demand marks of a group (R175). -/
def Part.marksOf (p : Part) (g : Nat) : Marks := Table.get .off p.main.marks g

/-- The held effective mode of a group (R178). -/
def Part.mode (p : Part) (g : Nat) : Mode := Table.get .normal p.main.modes g

/-- The live state of a drop (R154). -/
def Part.drop (p : Part) (i : Nat) : DropLive := Table.get .unconfigured p.main.drops i

/-- The state of a panel link (R151). -/
def Part.panelLink (p : Part) (l : Nat) : PanelLink := Table.get .fresh p.main.links l

/-- A call in flight names a badge (R92, R7). -/
def Part.badgeInCall (p : Part) (b : Badge) : Bool := p.main.calls.any fun e => decide (e.2.badge = some b)

/-- A call in flight names a drop (R80, R87). -/
def Part.dropInCall (p : Part) (i : Nat) : Bool := p.main.calls.any fun e => decide (e.2.drop = i)

/-- The call in flight that holds a number, with its slot (R126). -/
def Part.callNumbered (p : Part) (n : Half) : Option (Nat × Call) := p.main.calls.find? fun e => decide (e.2.number = n)

/-- The FREE slot with the lowest number (R113). -/
def Part.freeSlot (p : Part) : Option Nat := (List.range Config.callSlots).find? fun k => (Table.lookup p.main.calls k).isNone

/-- The drop's live state set. -/
def Part.setDrop (p : Part) (i : Nat) (d : DropLive) : Part := p.withDrops (Table.set .unconfigured p.main.drops i d)

/-- The panel link's state set. -/
def Part.setLink (p : Part) (l : Nat) (k : PanelLink) : Part := p.withLinks (Table.set .fresh p.main.links l k)

/-! ## Requests to the Tenant Store and the Credential Store -/

/-- A tenant's record rewritten, where the entry is present. -/
def Part.modTenant (p : Part) (t : Byte) (f : Tenant → Tenant) : Part :=
  match p.tenant t with
  | some r => p.withTenants (Table.put p.ret.tenants t.toNat (f r))
  | none => p

/-- The increment of R8 and R29; a record naming tenant 0 is counted nowhere. -/
def Part.countUp (p : Part) (t : Byte) : Part :=
  if t = 0 then p else p.modTenant t fun r => { r with count := r.count + 1 }

/-- The decrement of R8 and R29. -/
def Part.countDown (p : Part) (t : Byte) : Part :=
  if t = 0 then p else p.modTenant t fun r => { r with count := r.count - 1 }

/-- A credential record rewritten, where it is present. -/
def Part.modCred (p : Part) (b : Badge) (f : Cred → Cred) : Part :=
  match p.cred b with
  | some c => p.withCreds (Table.put p.ret.creds b.toNat (f c))
  | none => p

/-- The state derived from the quota by a command that writes it: SUSPENDED is kept (R5). -/
def deriveState (old : CredState) (quota : Option Byte) : CredState :=
  if old = .suspended then .suspended else if quota = some 0 then .exhausted else .active

/-- A record charged (R21): remaining reduced by one, the reservation cleared, EXHAUSTED at 0 when ACTIVE. -/
def chargeCred (c : Cred) : Cred :=
  match c.quota with
  | some q =>
    let left : Byte := byte (q.toNat - 1)
    { c with
      quota := some left
      reserved := false
      state := if left = 0 ∧ c.state = .active then .exhausted else c.state }
  | none => { c with reserved := false }

/-- The charge of a call's trip (R21): nothing without a record, and nothing when its trip is not reserved. -/
def Part.charge (p : Part) (b : Badge) : Part := p.modCred b fun c => if c.reserved then chargeCred c else c

/-- The release of a call's trip (R22). -/
def Part.release (p : Part) (b : Badge) : Part := p.modCred b fun c => { c with reserved := false }

/-- The reservation of a trip (R20). -/
def Part.reserve (p : Part) (b : Badge) : Part := p.modCred b fun c => { c with reserved := true }

/-! ## Requests to the Ticket Pool -/

/-- The link of a ticket: present while PENDING or CLAIMED (R136). -/
def TicketState.link : TicketState → Option CallLink
  | .pending l => some l
  | .issued _ => none
  | .claimed _ l => some l

/-- A ticket is ISSUED. -/
def TicketState.isIssued : TicketState → Bool
  | .pending _ => false
  | .issued _ => true
  | .claimed _ _ => false

/-- A ticket is linked to the call of a link (R137). -/
def Ticket.linkedTo (t : Ticket) (l : CallLink) : Bool := decide (t.state.link = some l)

/-- The linked ticket of a call: the call's linked-ticket field (R110; log 14). -/
def Part.linkedTicket (p : Part) (l : CallLink) : Option Ticket := p.main.tickets.find? fun t => t.linkedTo l

/-- Tickets leave the pool; the others keep their order, and the links of those that leave are cut with them (R144). -/
def Part.removeTickets (p : Part) (gone : Ticket → Bool) : Part := p.withTickets (p.main.tickets.filter fun t => !gone t)

/-- The ticket removal request for a badge (R11, R145). -/
def Part.removeBadgeTickets (p : Part) (b : Badge) : Part := p.removeTickets fun t => decide (t.badge = b)

/-- A ticket's badge has a record naming a tenant (R33). -/
def Part.ticketOfTenant (p : Part) (tenant : Byte) (t : Ticket) : Bool :=
  match p.cred t.badge with
  | some c => decide (c.tenant = tenant)
  | none => false

/-- The tenant ticket removal request (R33, R145). -/
def Part.removeTenantTickets (p : Part) (tenant : Byte) : Part := p.removeTickets (p.ticketOfTenant tenant)

/-- The retirement path, taken whole (R14): the record, its tickets and its place in its tenant's count. -/
def Part.retire (p : Part) (b : Badge) : Part :=
  match p.cred b with
  | some c => ((p.withCreds (Table.erase p.ret.creds b.toNat)).removeBadgeTickets b).countDown c.tenant
  | none => p

/-- The record of a call's badge entitles it to a ticket (R118, R139). -/
def Part.entitled (p : Part) (badge : Option Badge) : Bool :=
  match badge.bind p.cred with
  | some c => decide (c.state ≠ .suspended) && p.tenantLive c.tenant
  | none => false

/-- The linked ticket issued, with its link cut (R139). -/
def issueTicket (l : CallLink) (expiry : Nat) (t : Ticket) : Ticket :=
  if t.linkedTo l then { t with state := .issued expiry } else t

/-- The ticket item of an assignment (R118, R139, R142). -/
def Part.assignTicket (p : Part) (badge : Option Badge) (l : CallLink) : Part :=
  match p.linkedTicket l with
  | none => p
  | some t =>
    match t.state with
    | .pending _ =>
      if p.entitled badge then
        p.withTickets ((p.main.tickets.filter fun u => !(u.state.isIssued && decide (u.badge = t.badge))).map
          (issueTicket l (p.main.now + Config.minute * p.ret.params.ticketLifetime)))
      else p.removeTickets fun u => u.linkedTo l
    | .issued _ => p
    | .claimed _ _ => p.removeTickets fun u => u.linkedTo l

/-- What an unwinding ending makes of a ticket: a linked PENDING ticket leaves, a linked CLAIMED ticket returns to ISSUED
with the expiry it held, or leaves when that has passed (R121, R140, R142). -/
def unwoundTicket (now : Nat) (l : CallLink) (t : Ticket) : Option Ticket :=
  if t.linkedTo l then
    match t.state with
    | .pending _ => none
    | .issued e => some { t with state := .issued e }
    | .claimed e _ => if e ≤ now then none else some { t with state := .issued e }
  else some t

/-- The ticket item of an unwinding ending (R121). -/
def Part.unwindTicket (p : Part) (l : CallLink) : Part :=
  p.withTickets (p.main.tickets.filterMap (unwoundTicket p.main.now l))

/-! ## The dispatcher send queue (R133) -/

/-- Ask for a frame to the dispatcher: it joins the send queue, or is discarded while that holds 64 frames (R133). -/
def Part.send (p : Part) (f : DispatcherFrame) : Part :=
  if p.main.sendQueue.length < Config.sendQueue then p.withSendQueue (p.main.sendQueue ++ [f]) else p

/-- The recall landing of a group in the map; absent when it is unconfigured (R75). -/
def Part.recallLandingOf (p : Part) (g : Nat) : Option Byte := (Table.lookup p.ret.groups g).map GroupEntry.recallLanding

/-- MODE_NOTICE of a group, as its mode and recall landing stand in the step (R133). -/
def Part.notice (p : Part) (g : Nat) : Part := p.send (.modeNotice (byte g) (p.mode g) (p.recallLandingOf g))

/-- MODE_NOTICE for every configured group, in ascending group number (R133, R181). -/
def Part.noticeAll (p : Part) : Part :=
  eight.foldl (fun q g => if (Table.lookup q.ret.groups g).isSome then q.notice g else q) p

/-! ## The endings of a call (chapter 6) -/

/-- An answer joins a drop's answer list when the drop is UP; otherwise it is lost (R120, R121, R166). -/
def Part.tell (p : Part) (i : Nat) (a : Answer) : Part :=
  let d := p.drop i
  if d.state = .up then p.setDrop i { d with answers := d.answers ++ [⟨a, false⟩] } else p

/-- The slot becomes FREE (R113). -/
def Part.free (p : Part) (slot : Nat) : Part := p.withCalls (Table.erase p.main.calls slot)

/-- The charge item of an assignment (R117, item 1). -/
def Part.chargeFor (p : Part) (c : Call) : Part :=
  match c.charge, c.badge with
  | true, some b => p.charge b
  | _, _ => p

/-- The release item of an unwinding ending (R121, item 1). -/
def Part.releaseFor (p : Part) (c : Call) : Part :=
  match c.charge, c.badge with
  | true, some b => p.release b
  | _, _ => p

/-- A STAFF holder of a tenant other than 0, whose assignment opens an escort window (R119). -/
def Part.opensWindow (p : Part) (b : Badge) : Option Byte :=
  match p.cred b with
  | some c => if c.cls = .staff ∧ c.tenant ≠ 0 then some c.tenant else none
  | none => none

/-- The memories of an assignment: repeat memory and, for a STAFF holder, escort window, at an UP drop (R119). -/
def Part.remember (p : Part) (c : Call) (car : Byte) : Part :=
  match c.badge with
  | none => p
  | some b =>
    let d := p.drop c.drop
    if d.state = .up then
      let dest := c.finalDest.getD c.firstDest
      let now := p.main.now
      let memory : RepeatMemory := ⟨b, dest, c.group, car, now, now + Config.second * p.ret.params.repeatWindow⟩
      let escort : Option EscortWindow :=
        match p.opensWindow b with
        | some t => some ⟨t, dest, c.group, car, now, 0, now + Config.second * p.ret.params.escortWindow⟩
        | none => d.escort
      p.setDrop c.drop { d with memory := some memory, escort := escort }
    else p

/-- CALL_ASSIGNED for a call in flight: charge, ticket, memories, answer, slot, in this order (R117). -/
def Part.assignCall (p : Part) (slot : Nat) (c : Call) (car : Byte) : Part :=
  let l : CallLink := ⟨c.number, slot⟩
  let charged := p.chargeFor c
  let settled := charged.assignTicket c.badge l
  let remembered := settled.remember c car
  let told := remembered.tell c.drop (.granted c.group car c.firstDest c.finalDest)
  told.free slot

/-- An unwinding ending: release, ticket, answer, slot, in this order (R121). -/
def Part.unwind (p : Part) (slot : Nat) (c : Call) (why : NoService) : Part :=
  let l : CallLink := ⟨c.number, slot⟩
  let released := p.releaseFor c
  let settled := released.unwindTicket l
  let told := settled.tell c.drop (.noService why)
  told.free slot

/-! ## The links' receivers (R203) -/

/-- The place of a link in the set of receiving links: panel links 0 to 5, the dispatcher link 6, the management link 7. -/
def wireIndex : Wire → Nat
  | .panel l => l.val
  | .dispatcher => 6
  | .management => 7

/-- A frame has ended on a link: its receiver is hunting again (R203). -/
def Part.hunt (p : Part) (w : Wire) : Part :=
  { p with main := { p.main with receiving := setPut p.main.receiving (wireIndex w) false } }

/-! ## Taking a management command (chapter 10) -/

/-- What a block answers to a command: the part after it, the status and the results (R186, R187). -/
structure Taken where
  part : Part
  status : Status
  results : Results
  deriving DecidableEq, Repr

/-- A refused command changes nothing and has no results (R186). -/
def refuse (p : Part) (status : Status) : Taken := ⟨p, status, .nothing⟩

/-- An accepted command is answered DONE with the results its rule gives (R186). -/
def done (p : Part) (results : Results) : Taken := ⟨p, .done, results⟩

/-- The reply is formed and its sending begins: the link is REPLYING (R184). -/
def Part.reply (p : Part) (r : Reply) : Part := p.withMgmt (.replying r)

/-- A frame that arrives during a reply is counted in the overrun record (R185). -/
def Overrun.count1 (tag : Byte) : Option Overrun → Overrun
  | none => ⟨tag, tag, 1⟩
  | some o => ⟨o.first, tag, min (o.count + 1) 255⟩

/-- The overrun record takes a frame's tag (R185). -/
def Part.overrunBy (p : Part) (tag : Byte) : Part :=
  { p with main := { p.main with overrun := some (Overrun.count1 tag p.main.overrun) } }

/-- A well-checked command frame reaches the link (R184, R185, R186): discarded while CLOSED, counted in the overrun record
while REPLYING, and taken while READY: refused BAD_VALUE when its body is malformed, else handed to its block. -/
def Part.takeCommand {α : Type} (p : Part) (kind tag : Byte) (body : Body α) (act : α → Part → Taken) : Part :=
  let q := p.hunt .management
  match q.main.mgmt with
  | .closed => q
  | .replying _ => q.overrunBy tag
  | .ready =>
    match body with
    | .malformed => q.reply ⟨kind, tag, .badValue, .nothing⟩
    | .read fields =>
      let t := act fields q
      t.part.reply ⟨kind, tag, t.status, t.results⟩

/-- A management command, lost while the main well does not run (R184, R198). -/
def command {α : Type} (kind tag : Byte) (body : Body α) (act : α → Part → Taken) (s : State) :
    Host.Outcome State Fault Refusal :=
  whileRunning s fun p => p.takeCommand kind tag body act

/-- A read: it changes nothing and answers DONE. -/
def readOnly (view : Part → Results) (_ : Unit) (p : Part) : Taken := done p (view p)

end Sys2Proof.Machine
end

