-- ==== Sys2Proof/Machine/Operands.lean ====
section
/-! DEFINITION. Machine/Operands.lean: the operands commands carry: their codes (R204, R207) and the checks that make them
well formed (R6, R30, R61, R66, R73, R170). -/

namespace Sys2Proof.Machine

/-! ## Codes -/

/-- The class codes of the image (R207). -/
def CredClass.ofCode (b : Byte) : Option CredClass :=
  match b.toNat with
  | 0 => some .staff
  | 1 => some .visitor
  | 2 => some .service
  | 3 => some .security
  | _ => none

/-- The landing kinds in R70's order (R204). -/
def LandingKind.ofCode (b : Byte) : Option LandingKind :=
  match b.toNat with
  | 0 => some .publicLanding
  | 1 => some .sky
  | 2 => some .tenant
  | 3 => some .secure
  | 4 => some .plant
  | 5 => some .closed
  | _ => none

/-- The drop kinds in R79's order (R204). -/
def DropKind.ofCode (b : Byte) : Option DropKind :=
  match b.toNat with
  | 0 => some .lobby
  | 1 => some .sky
  | _ => none

/-- The scopes in R41's order (R204). -/
def Scope.ofCode (b : Byte) : Option Scope :=
  match b.toNat with
  | 0 => some .all
  | 1 => some .trial
  | _ => none

/-- The modes a demand may ask for, by the mode codes (R204, R170, R175). -/
def demandMode (b : Byte) : Option Mode :=
  match b.toNat with
  | 1 => some .opened
  | 2 => some .lockdown
  | 3 => some .recalled
  | _ => none

/-- The parameters in R66's order (R204). -/
def Param.ofCode (b : Byte) : Option Param :=
  match b.toNat with
  | 0 => some .callTimeout
  | 1 => some .ticketLifetime
  | 2 => some .escortWindow
  | 3 => some .repeatWindow
  | 4 => some .livenessTimeout
  | 5 => some .missLimit
  | 6 => some .dropQualify
  | 7 => some .linkQualify
  | 8 => some .sweepGrace
  | _ => none

/-- 0 for clear, off, disabled; 1 otherwise (R204); no other value is a code (log 16). -/
def flagOfCode (b : Byte) : Option Bool :=
  match b.toNat with
  | 0 => some false
  | 1 => some true
  | _ => none

/-- The polarities in R169's order (R204). -/
def Polarity.ofCode (b : Byte) : Option Polarity :=
  match b.toNat with
  | 0 => some .activeHigh
  | 1 => some .activeLow
  | _ => none

/-- The line types in R169's order (R204). -/
def LineType.ofCode (b : Byte) : Option LineType :=
  match b.toNat with
  | 0 => some .level
  | 1 => some .edge
  | _ => none

/-! ## Credentials (R6) -/

/-- A badge number that may be a key: neither 0 nor 2^40−1 (R1). -/
def badgeKey (b : Badge) : Bool := decide (b ≠ 0) && decide (b ≠ BitVec.allOnes 40)

/-- A well-formed grant (R6, R30). -/
def grantOk (g : Grant) : Bool :=
  decide (g.low.toNat ≤ Config.lastLanding) && decide (g.high.toNat ≤ Config.lastLanding) &&
    decide (g.low ≤ g.high) && decide (g.schedule.toNat ≤ Config.lastSchedule)

/-- The validity days of an image (R6). -/
def daysOk (i : CredImage) : Bool :=
  match i.validTo with
  | none => true
  | some d => decide (i.validFrom = 0) || decide (i.validFrom ≤ d)

/-- A landing that is absent or exists (R6). -/
def homeOk (i : CredImage) : Bool :=
  match i.home with
  | none => true
  | some h => decide (h.toNat ≤ Config.lastLanding)

/-- A well-formed record image (R6); its reserved fields are tested where the frame is read (R186). -/
def imageOk (i : CredImage) : Bool :=
  badgeKey i.badge && (CredClass.ofCode i.cls).isSome && homeOk i &&
    decide (i.grants.length ≤ Config.personalGrants) && i.grants.all grantOk && daysOk i

/-- The fields of an image as a record, with the state and the reservation given (R7, R9). -/
def recordOf (i : CredImage) (state : CredState) (reserved : Bool) : Cred where
  state := state
  cls := (CredClass.ofCode i.cls).getD .staff
  tenant := i.tenant
  home := i.home
  grants := i.grants
  validFrom := i.validFrom
  validTo := i.validTo
  quota := i.quota
  reserved := reserved
  escort := i.escort
  accessible := i.accessible
  trial := i.trial

/-! ## Tenants, schedules, parameters, map -/

/-- A well-formed floor grant list (R30). -/
def grantListOk (l : List Grant) : Bool := decide (l.length ≤ Config.floorGrants) && l.all grantOk

/-- A well-formed window (R61, check 3). -/
def windowOk (w : Window) : Bool :=
  decide (w.days ≠ 0) && decide (w.start.toNat ≤ 1439) && decide (1 ≤ w.stop.toNat) && decide (w.stop.toNat ≤ 1440) &&
    decide (w.start < w.stop)

/-- A well-formed window list (R61, checks 2 and 3). -/
def windowListOk (l : List Window) : Bool := decide (l.length ≤ Config.windows) && l.all windowOk

/-- Day numbers strictly ascend (R58). -/
def ascending : List Half → Bool
  | a :: b :: t => decide (a < b) && ascending (b :: t)
  | _ => true

/-- A well-formed holiday list (R58). -/
def holidaysOk (l : List Half) : Bool := decide (l.length ≤ Config.holidays) && ascending l

/-- The range of a parameter (R66). -/
def Param.range : Param → Nat × Nat
  | .callTimeout => (5, 100)
  | .ticketLifetime => (1, 60)
  | .escortWindow => (5, 120)
  | .repeatWindow => (2, 30)
  | .livenessTimeout => (10, 100)
  | .missLimit => (1, 8)
  | .dropQualify => (2, 32)
  | .linkQualify => (1, 8)
  | .sweepGrace => (0, 30)

/-- The value lies in the parameter's range (R67). -/
def Param.allows (q : Param) (v : Nat) : Bool := decide (q.range.1 ≤ v) && decide (v ≤ q.range.2)

/-- One parameter replaced (R67). -/
def Params.put (s : Params) (q : Param) (v : Nat) : Params :=
  match q with
  | .callTimeout => { s with callTimeout := v }
  | .ticketLifetime => { s with ticketLifetime := v }
  | .escortWindow => { s with escortWindow := v }
  | .repeatWindow => { s with repeatWindow := v }
  | .livenessTimeout => { s with livenessTimeout := v }
  | .missLimit => { s with missLimit := v }
  | .dropQualify => { s with dropQualify := v }
  | .linkQualify => { s with linkQualify := v }
  | .sweepGrace => { s with sweepGrace := v }

/-- The value of a parameter (R66). -/
def Params.value (s : Params) (q : Param) : Nat :=
  match q with
  | .callTimeout => s.callTimeout
  | .ticketLifetime => s.ticketLifetime
  | .escortWindow => s.escortWindow
  | .repeatWindow => s.repeatWindow
  | .livenessTimeout => s.livenessTimeout
  | .missLimit => s.missLimit
  | .dropQualify => s.dropQualify
  | .linkQualify => s.linkQualify
  | .sweepGrace => s.sweepGrace

/-- A landing that exists (R70). -/
def landingOk (l : Byte) : Bool := decide (l.toNat ≤ Config.lastLanding)

/-- A group that exists (R72). -/
def groupOk (g : Byte) : Bool := decide (g.toNat < Config.groups)

/-- A well-formed list of served ranges (R73, check 1). -/
def rangesOk (l : List LandingRange) : Bool :=
  decide (1 ≤ l.length) && decide (l.length ≤ Config.servedRanges) &&
    l.all fun r => landingOk r.low && landingOk r.high && decide (r.low ≤ r.high)

/-- A drop byte that names a drop: link 0 to 5, address 0 to 15 (R80, R204). -/
def dropOk (d : Byte) : Bool := decide (d.toNat < Config.drops)

/-- A slot number of the overlays (R41). -/
def slotOk (s : Byte) : Bool := decide (s.toNat < Config.overlaySlots)

/-! ## Alarm lines (R170) -/

/-- The function an ALARM_SET carries: the demand mode and group set are present exactly with DEMAND, an absent mode is
FFh and an absent group set 0 (R169, R170, R204). -/
def lineFunctionOf (f : AlarmFields) : Option LineFunction :=
  match f.function.toNat with
  | 0 => if f.mode = 0xFF#8 ∧ f.groups = 0 then some .none else none
  | 1 => if f.mode = 0xFF#8 ∧ f.groups = 0 then some .attention else none
  | 2 => if f.groups = 0 then none else (demandMode f.mode).map fun m => .demand m f.groups
  | _ => none

/-- The configuration an ALARM_SET carries, or none where it is refused BAD_VALUE (R170; log 16). -/
def lineConfigOf (f : AlarmFields) : Option LineConfig :=
  if f.line.toNat < Config.alarmLines ∧ f.debounce.toNat ≤ Config.debounceMax then
    match flagOfCode f.enable, Polarity.ofCode f.polarity, LineType.ofCode f.type, lineFunctionOf f with
    | some e, some q, some t, some g => some ⟨e, q, t, f.debounce.toNat, g⟩
    | _, _, _, _ => none
  else none

/-! ## Requests (R86) -/

/-- The badge of a request. -/
def requestBadge : Request → Option Badge
  | .destination b _ => some b
  | .badgeOnly b => some b
  | .anonymous _ => none

/-- The landing of a request. -/
def requestLanding : Request → Option Byte
  | .destination _ l => some l
  | .badgeOnly _ => none
  | .anonymous l => some l

end Sys2Proof.Machine
end

