-- ==== Sys2Proof/Machine/Flags.lean ====
section
/-! DEFINITION. Machine/Flags.lean: the flags of the part: what is in force today (R57, R60), the attention conditions and
the attention line (R188 to R191). -/

namespace Sys2Proof.Machine

/-! ## Day type and schedules -/

/-- The bit of a day type in a day-type set (R204). -/
def DayType.code : DayType → Nat
  | .mon => 0
  | .tue => 1
  | .wed => 2
  | .thu => 3
  | .fri => 4
  | .sat => 5
  | .sun => 6
  | .hol => 7

/-- The weekday of a day number: day 0 is a Monday (R57). -/
def weekday (day : Half) : DayType :=
  match day.toNat % 7 with
  | 0 => .mon
  | 1 => .tue
  | 2 => .wed
  | 3 => .thu
  | 4 => .fri
  | 5 => .sat
  | _ => .sun

/-- The day type of a day number: HOL when it is in the holiday list, else its weekday (R57). -/
def dayTypeOf (holidays : List Half) (day : Half) : DayType := if day ∈ holidays then .hol else weekday day

/-- The day type of today, given for a VALID calendar only (R57). -/
def Retention.dayType (r : Retention) : Option DayType :=
  if r.calendar.valid then some (dayTypeOf r.holidays r.calendar.day) else none

/-- A window matches a day type and a minute (R59, R60). -/
def windowMatches (w : Window) (t : DayType) (minute : Nat) : Bool :=
  inSet w.days t.code && decide (w.start.toNat ≤ minute) && decide (minute < w.stop.toNat)

/-- A schedule is in force (R60). -/
def Part.inForce (p : Part) (schedule : Byte) : Bool :=
  if schedule = 0 then true
  else
    match p.ret.dayType with
    | some t => (p.windowsOf schedule.toNat).any fun w => windowMatches w t p.ret.calendar.minute
    | none => false

/-! ## Alarm lines -/

/-- The level a polarity calls inactive (R171); true is high. -/
def Polarity.inactive : Polarity → Bool
  | .activeHigh => false
  | .activeLow => true

/-- A line is active: its debounced level is the active level of its polarity (R171). -/
def Part.lineActive (p : Part) (n : Nat) : Bool :=
  decide ((p.lineLive n).debounced ≠ (p.lineConfig n).polarity.inactive)

/-- A line raises its attention condition: enabled, its status set, its function not NONE (R174). -/
def Part.lineRaises (p : Part) (n : Nat) : Bool :=
  (p.lineConfig n).enabled && inSet p.ret.lineStatus n && decide ((p.lineConfig n).function ≠ .none)

/-- The demand a line holds: its mode and group set, when it is enabled, its status set and its function DEMAND (R174). -/
def Part.lineDemand (p : Part) (n : Nat) : Option (Mode × Set8) :=
  if (p.lineConfig n).enabled && inSet p.ret.lineStatus n then
    match (p.lineConfig n).function with
    | .demand m gs => some (m, gs)
    | .attention => none
    | .none => none
  else none

/-! ## Attention conditions -/

/-- The status of the attention condition in place n: ALARM_0 to ALARM_7, DISPATCHER_DOWN, RECALL_LATCHED,
CALENDAR_INVALID, PANEL_DOWN, PURGE_DONE, SWEEP_DONE, TICKET_POOL_FULL, RETENTION_LOST (R188, R204). Level statuses follow
their causes; sticky statuses are held. -/
def Part.attention (p : Part) (n : Nat) : Bool :=
  match n with
  | 8 => decide (p.main.link ≠ .up)
  | 9 => decide (p.ret.latches ≠ 0)
  | 10 => !p.ret.calendar.valid
  | 11 => p.main.panelDown
  | 12 => p.main.purgeDone
  | 13 => p.main.sweepDone
  | 14 => p.main.poolFull
  | 15 => p.ret.retentionLost
  | n => p.lineRaises n

/-- Every attention status, as the attention set of R204. -/
def Part.statuses (p : Part) : Half := bitsOf 16 p.attention

/-- The attention line is asserted exactly when some condition has both its status and its enable set (R191). -/
def Part.attentionLine (p : Part) : Bool := decide (p.statuses &&& p.main.enables ≠ 0)

/-- While the main well is stopped the line is released (R191). -/
def State.attentionLine (s : State) : Bool :=
  match s.well with
  | .running m => Part.attentionLine ⟨s.ret, m⟩
  | .qualifying => false
  | .off => false

/-- The sticky statuses named in a set are cleared; a level status follows its cause (R189). -/
def Part.clearSticky (p : Part) (set : Half) : Part :=
  { ret := { p.ret with retentionLost := p.ret.retentionLost && !inSet set 15 }
    main := { p.main with
      panelDown := p.main.panelDown && !inSet set 11
      purgeDone := p.main.purgeDone && !inSet set 12
      sweepDone := p.main.sweepDone && !inSet set 13
      poolFull := p.main.poolFull && !inSet set 14 } }

/-- PANEL_DOWN is set (R157). -/
def Part.raisePanelDown (p : Part) : Part := { p with main := { p.main with panelDown := true } }
/-- PURGE_DONE is set (R39). -/
def Part.raisePurgeDone (p : Part) : Part := { p with main := { p.main with purgeDone := true } }
/-- SWEEP_DONE is set (R64). -/
def Part.raiseSweepDone (p : Part) : Part := { p with main := { p.main with sweepDone := true } }
/-- TICKET_POOL_FULL is set (R107). -/
def Part.raisePoolFull (p : Part) : Part := { p with main := { p.main with poolFull := true } }

end Sys2Proof.Machine
end

