-- ==== Sys2Proof/Machine/Calendar.lean ====
section
/-! DEFINITION. Machine/Calendar.lean: the Calendar and Schedule Unit: calendar, holidays, schedules, parameters, the
expiry sweep, and the advance on the retention time base (chapter 3). -/

namespace Sys2Proof.Machine

/-- A trigger of the expiry sweep, in either activity (R62). -/
def SweepWalker.trigger (w : SweepWalker) (day : Half) : SweepWalker :=
  { w with running := true, day := day, position := 0, count := if w.running then w.count else 0 }

/-- The sweep is triggered by a CAL_SET (R55). -/
def calSetTriggers (old : Calendar) (day : Half) : Bool := !old.valid || decide (day ≠ old.day)

/-- The retention well after an accepted CAL_SET (R55). -/
def Retention.setCalendar (r : Retention) (f : CalFields) : Retention :=
  { r with
    calendar := ⟨true, f.day, f.minute.toNat, 0⟩
    sweep := if calSetTriggers r.calendar f.day then r.sweep.trigger f.day else r.sweep }

/-- CAL_SET (R55). -/
def takeCalSet (f : CalFields) (p : Part) : Taken :=
  if 1439 < f.minute.toNat then refuse p .badValue
  else
    let q : Part := { p with ret := p.ret.setCalendar f }
    done q (.calendarSet q.ret.calendar q.ret.dayType)

/-- CAL_SET (R55). -/
def execCalSet (tag : Byte) (body : Body CalFields) (s : State) : Host.Outcome State Fault Refusal :=
  command 0x15 tag body takeCalSet s

/-- CAL_READ (R56). -/
def execCalRead (tag : Byte) (body : Body Unit) (s : State) : Host.Outcome State Fault Refusal :=
  command 0x16 tag body (readOnly fun p => .calendar p.ret.calendar p.ret.dayType) s

/-- HOLIDAY_SET (R58). -/
def takeHolidaySet (days : List Half) (p : Part) : Taken :=
  if !holidaysOk days then refuse p .badValue
  else done { p with ret := { p.ret with holidays := days } } .nothing

/-- HOLIDAY_SET (R58). -/
def execHolidaySet (tag : Byte) (body : Body (List Half)) (s : State) : Host.Outcome State Fault Refusal :=
  command 0x17 tag body takeHolidaySet s

/-- HOLIDAY_READ (R58). -/
def execHolidayRead (tag : Byte) (body : Body Unit) (s : State) : Host.Outcome State Fault Refusal :=
  command 0x18 tag body (readOnly fun p => .holidays p.ret.holidays) s

/-- A stored schedule has a number from 1 to 63 (R59). -/
def scheduleOk (n : Byte) : Bool := decide (n ≠ 0) && decide (n.toNat ≤ Config.lastSchedule)

/-- SCHED_SET (R61). -/
def takeSchedSet (f : SchedFields) (p : Part) : Taken :=
  if !scheduleOk f.schedule || !windowListOk f.windows then refuse p .badValue
  else
    done { p with ret := { p.ret with schedules := Table.set [] p.ret.schedules f.schedule.toNat f.windows } } .nothing

/-- SCHED_SET (R61). -/
def execSchedSet (tag : Byte) (body : Body SchedFields) (s : State) : Host.Outcome State Fault Refusal :=
  command 0x19 tag body takeSchedSet s

/-- SCHED_READ (R61). -/
def takeSchedRead (n : Byte) (p : Part) : Taken :=
  if !scheduleOk n then refuse p .badValue else done p (.windows (p.windowsOf n.toNat))

/-- SCHED_READ (R61). -/
def execSchedRead (tag : Byte) (body : Body Byte) (s : State) : Host.Outcome State Fault Refusal :=
  command 0x1A tag body takeSchedRead s

/-- PARAM_SET (R67). -/
def takeParamSet (f : ParamFields) (p : Part) : Taken :=
  match Param.ofCode f.parameter with
  | none => refuse p .badValue
  | some q =>
    if q.allows f.value.toNat then
      done { p with ret := { p.ret with params := p.ret.params.put q f.value.toNat } } .nothing
    else refuse p .badValue

/-- PARAM_SET (R67). -/
def execParamSet (tag : Byte) (body : Body ParamFields) (s : State) : Host.Outcome State Fault Refusal :=
  command 0x1B tag body takeParamSet s

/-- PARAM_READ (R67). -/
def execParamRead (tag : Byte) (body : Body Unit) (s : State) : Host.Outcome State Fault Refusal :=
  command 0x1C tag body (readOnly fun p => .params p.ret.params) s

/-! ## The expiry sweep (R63, R64) -/

/-- The sweep walker set. -/
def Part.withSweep (p : Part) (w : SweepWalker) : Part := { p with ret := { p.ret with sweep := w } }

/-- The end step of a sweep walk (R64). -/
def Part.endSweep (p : Part) : Part :=
  (p.withSweep { p.ret.sweep with running := false, position := 0, count := 0, lastCount := p.ret.sweep.count }).raiseSweepDone

/-- The sweep walker's condition: a valid-to day that, with the grace, is before the sweep day (R16, R63). The sum does
not wrap. -/
def pastGrace (c : Cred) (grace : Nat) (day : Half) : Bool :=
  match c.validTo with
  | some d => decide (d.toNat + grace < day.toNat)
  | none => false

/-- A record is visited and retired when it is past its grace; the position moves to it and the running count, which
stays at 65535, rises (R62, R63). -/
def Part.sweepRecord (p : Part) (k : Nat) (c : Cred) : Part :=
  let w := p.ret.sweep
  if pastGrace c p.ret.params.sweepGrace w.day then
    (p.retire (BitVec.ofNat 40 k)).withSweep { w with position := k, count := min (w.count + 1) Config.sweepCountMax }
  else p.withSweep { w with position := k }

/-- One visit of the sweep walker (R63). An IDLE walker makes none. -/
def Part.sweepVisit (p : Part) : Part :=
  if !p.ret.sweep.running then p
  else
    match Table.next p.ret.creds p.ret.sweep.position with
    | none => p.endSweep
    | some (k, c) => p.sweepRecord k c

/-- SWEEP_VISIT (R63). -/
def execSweepVisit (s : State) : Host.Outcome State Fault Refusal := whileRunning s Part.sweepVisit

/-! ## The advance of the calendar (R53, R54) -/

/-- The minute passes 1439: the day rolls over and triggers the sweep, or the calendar ends (R53, R54). -/
def Retention.rollDay (r : Retention) : Retention :=
  if r.calendar.day = 65535#16 then { r with calendar := ⟨false, 65535#16, 1439, 59⟩ }
  else
    { r with
      calendar := ⟨true, r.calendar.day + 1, 0, 0⟩
      sweep := r.sweep.trigger (r.calendar.day + 1) }

/-- The second count passes 59: the minute advances (R53). -/
def Retention.rollMinute (r : Retention) : Retention :=
  if r.calendar.minute < 1439 then
    { r with calendar := ⟨true, r.calendar.day, r.calendar.minute + 1, 0⟩ }
  else r.rollDay

/-- One second of the retention time base, with the carries it makes (R53). -/
def Retention.tick (r : Retention) : Retention :=
  if r.calendar.second < 59 then
    { r with calendar := ⟨true, r.calendar.day, r.calendar.minute, r.calendar.second + 1⟩ }
  else r.rollMinute

/-- The calendar advances while it is VALID and the retention well is not lost, whether or not the main well runs
(R52, R53, R197). -/
def Retention.advances (r : Retention) : Bool := r.intact && r.calendar.valid

/-- SECOND_ADVANCE (R53). -/
def execSecondAdvance (s : State) : Host.Outcome State Fault Refusal :=
  .next (if s.ret.advances then { s with ret := s.ret.tick } else s)

/-- MINUTE_ADVANCE: the second that passes 59 (R53; log 5). -/
def execMinuteAdvance (s : State) : Host.Outcome State Fault Refusal :=
  .next (if s.ret.advances && decide (59 ≤ s.ret.calendar.second) then { s with ret := s.ret.rollMinute } else s)

/-- DAY_ROLLOVER: the second that passes 59 in minute 1439 (R53, R54; log 5). -/
def execDayRollover (s : State) : Host.Outcome State Fault Refusal :=
  .next (if s.ret.advances && decide (59 ≤ s.ret.calendar.second) && decide (1439 ≤ s.ret.calendar.minute) then
    { s with ret := s.ret.rollDay } else s)

end Sys2Proof.Machine
end

