-- ==== Sys2Proof/Machine/Calls.lean ====
section
/-! DEFINITION. Machine/Calls.lean: the dispatcher's frames, the call timers and the liveness timer (chapter 6). -/

namespace Sys2Proof.Machine

/-- A CALL_ASSIGNED that is well formed: it ends the call that holds the number, or is answered CALL_CANCEL (R117, R127). -/
def Part.assigned (p : Part) (number : Half) (car : Byte) : Part :=
  match p.callNumbered number with
  | some (slot, c) => p.assignCall slot c car
  | none => p.send (.callCancel number)

/-- CALL_ASSIGNED (R117); with car FFh it is not well formed and is discarded (R206, R208). -/
def execCallAssigned (number : Half) (car : Byte) (s : State) : Host.Outcome State Fault Refusal :=
  whileRunning s fun p =>
    let q := p.hunt .dispatcher
    if carOk car then q.assigned number car else q

/-- A CALL_DECLINED that is well formed: it unwinds the call that holds the number, or is ignored (R122, R127). -/
def Part.declined (p : Part) (number : Half) (code : Byte) : Part :=
  match p.callNumbered number with
  | some (slot, c) => p.unwind slot c (.declined code)
  | none => p

/-- CALL_DECLINED (R122); with bits 7 to 4 set it is not well formed and is discarded (R206, R208). -/
def execCallDeclined (number : Half) (code : Byte) (s : State) : Host.Outcome State Fault Refusal :=
  whileRunning s fun p =>
    let q := p.hunt .dispatcher
    if codeOk code then q.declined number code else q

/-- The timer of a call in flight expires once its expiry is reached (R123). -/
def Part.timeout (p : Part) (number : Half) : Part :=
  match p.callNumbered number with
  | some (slot, c) => if c.expiry ≤ p.main.now then p.unwind slot c .timeout else p
  | none => p

/-- CALL_TIMER_EXPIRY (R123). -/
def execCallTimerExpiry (number : Half) (s : State) : Host.Outcome State Fault Refusal :=
  whileRunning s fun p => p.timeout number

/-- The dispatcher link's state and run set. -/
def Part.withLink (p : Part) (state : LinkState) (run : Nat) : Part :=
  { p with main := { p.main with link := state, aliveRun := run } }

/-- The run of DISPATCH_ALIVE frames has reached a count: the link becomes UP, or it goes on qualifying (R130). -/
def Part.qualifyLink (p : Part) (run : Nat) : Part :=
  if p.ret.params.linkQualify ≤ run then (p.withLink .up 0).noticeAll else p.withLink .qualifying run

/-- DISPATCH_ALIVE taken: in-service set, liveness timer, link (R130). -/
def Part.alive (p : Part) (groups : Set8) : Part :=
  let q : Part := { p with main := { p.main with
    inService := groups
    liveness := some (p.main.now + p.ret.params.livenessTimeout) } }
  match p.main.link with
  | .down => q.qualifyLink 1
  | .qualifying => q.qualifyLink (p.main.aliveRun + 1)
  | .up => q

/-- DISPATCH_ALIVE (R130). -/
def execDispatchAlive (groups : Set8) (s : State) : Host.Outcome State Fault Refusal :=
  whileRunning s fun p => (p.hunt .dispatcher).alive groups

/-- Every call in flight is unwound with NO_SERVICE DISPATCHER_DOWN, in ascending slot order (R125). -/
def Part.dropCalls (p : Part) : Part := p.main.calls.foldl (fun q e => q.unwind e.1 e.2 .dispatcherDown) p

/-- The link goes DOWN (R125, R131). -/
def Part.linkDown (p : Part) : Part :=
  let q := if p.main.link = .up then p.dropCalls else p
  { q with main := { q.main with link := .down, liveness := none, aliveRun := 0, inService := 0 } }

/-- The running liveness timer expires once its expiry is reached (R131). -/
def Part.livenessEnd (p : Part) : Part :=
  match p.main.liveness with
  | none => p
  | some e => if e ≤ p.main.now then p.linkDown else p

/-- LIVENESS_TIMER_EXPIRY (R131). -/
def execLivenessTimerExpiry (s : State) : Host.Outcome State Fault Refusal := whileRunning s Part.livenessEnd

/-- DISPATCHER_FRAME_SENT: the frame at the head leaves the send queue (R133). -/
def execDispatcherFrameSent (s : State) : Host.Outcome State Fault Refusal :=
  whileRunning s fun p => p.withSendQueue p.main.sendQueue.tail

/-- DISPATCHER_FRAME_DISCARDED: the frame ends and has no effect (R208). -/
def execDispatcherFrameDiscarded (s : State) : Host.Outcome State Fault Refusal :=
  whileRunning s fun p => p.hunt .dispatcher

end Sys2Proof.Machine
end

