-- ==== Sys2Proof/Machine/Credentials.lean ====
section
/-! DEFINITION. Machine/Credentials.lean: the Credential Store's commands (chapter 1). -/

namespace Sys2Proof.Machine

/-- The state of a new record (R7). -/
def enrolledState (quota : Option Byte) : CredState := if quota = some 0 then .exhausted else .active

/-- The part with a new record enrolled: the record inserted and counted in its tenant (R7, R8). -/
def Part.enrol (p : Part) (i : CredImage) : Part :=
  (p.withCreds (Table.put p.ret.creds i.badge.toNat (recordOf i (enrolledState i.quota) false))).countUp i.tenant

/-- CRED_ENROL (R7). -/
def takeCredEnrol (i : CredImage) (p : Part) : Taken :=
  if !imageOk i then refuse p .badValue
  else if (p.cred i.badge).isSome then refuse p .exists
  else if p.badgeInCall i.badge then refuse p .wrongState
  else if p.tenantFree i.tenant || p.tenantPurging i.tenant then refuse p .badValue
  else if Config.credentials ≤ p.ret.creds.length then refuse p .tableFull
  else done (p.enrol i) (.credState (enrolledState i.quota))

/-- CRED_ENROL (R7). -/
def execCredEnrol (tag : Byte) (body : Body CredImage) (s : State) : Host.Outcome State Fault Refusal :=
  command 0x01 tag body takeCredEnrol s

/-- The record an amendment leaves: the image's fields, the reservation kept, the state derived afresh (R5, R9). -/
def amended (i : CredImage) (c : Cred) : Cred := recordOf i (deriveState c.state i.quota) c.reserved

/-- A record moves between tenants: the decrement and the increment of R8 when the tenant changes. -/
def Part.moveTenant (p : Part) (old new : Byte) : Part := if old = new then p else (p.countDown old).countUp new

/-- The part with a record amended: its fields, the counts of R8, and the ticket removal of R10. -/
def Part.amend (p : Part) (i : CredImage) (c : Cred) : Part :=
  let q := (p.withCreds (Table.put p.ret.creds i.badge.toNat (amended i c))).moveTenant c.tenant i.tenant
  if p.tenantLive i.tenant then q else q.removeBadgeTickets i.badge

/-- CRED_AMEND (R9, R10). -/
def takeCredAmend (i : CredImage) (p : Part) : Taken :=
  if !badgeKey i.badge then refuse p .badValue
  else
    match p.cred i.badge with
    | none => refuse p .notFound
    | some c =>
      if !imageOk i then refuse p .badValue
      else if p.tenantFree i.tenant then refuse p .badValue
      else if p.tenantPurging c.tenant || p.tenantPurging i.tenant then refuse p .purging
      else if c.reserved && (decide (i.quota = none) || decide (i.quota = some 0)) then refuse p .badValue
      else done (p.amend i c) (.credState (amended i c).state)

/-- CRED_AMEND (R9). -/
def execCredAmend (tag : Byte) (body : Body CredImage) (s : State) : Host.Outcome State Fault Refusal :=
  command 0x02 tag body takeCredAmend s

/-- A command on a present record: BAD_VALUE for a badge that is no key, NOT_FOUND without a record (R12, R13, R15, R17). -/
def onCred (b : Badge) (p : Part) (act : Cred → Taken) : Taken :=
  if !badgeKey b then refuse p .badValue
  else
    match p.cred b with
    | none => refuse p .notFound
    | some c => act c

/-- The part with a record rewritten at its place. -/
def Part.putCred (p : Part) (b : Badge) (c : Cred) : Part := p.withCreds (Table.put p.ret.creds b.toNat c)

/-- CRED_SUSPEND (R12). -/
def takeCredSuspend (b : Badge) (p : Part) : Taken :=
  onCred b p fun c => done ((p.putCred b { c with state := .suspended }).removeBadgeTickets b) (.credState .suspended)

/-- CRED_SUSPEND (R12). -/
def execCredSuspend (tag : Byte) (body : Body Badge) (s : State) : Host.Outcome State Fault Refusal :=
  command 0x03 tag body takeCredSuspend s

/-- CRED_REINSTATE (R13). -/
def takeCredReinstate (b : Badge) (p : Part) : Taken :=
  onCred b p fun c =>
    if c.state = .suspended then
      done (p.putCred b { c with state := enrolledState c.quota }) (.credState (enrolledState c.quota))
    else refuse p .wrongState

/-- CRED_REINSTATE (R13). -/
def execCredReinstate (tag : Byte) (body : Body Badge) (s : State) : Host.Outcome State Fault Refusal :=
  command 0x04 tag body takeCredReinstate s

/-- CRED_RETIRE (R15). -/
def takeCredRetire (b : Badge) (p : Part) : Taken := onCred b p fun _ => done (p.retire b) .nothing

/-- CRED_RETIRE (R15). -/
def execCredRetire (tag : Byte) (body : Body Badge) (s : State) : Host.Outcome State Fault Refusal :=
  command 0x05 tag body takeCredRetire s

/-- QUOTA_RELOAD (R23). -/
def takeQuotaReload (f : QuotaFields) (p : Part) : Taken :=
  onCred f.badge p fun c =>
    if 255 < f.remaining.toNat then refuse p .badValue
    else if c.reserved && decide (f.remaining = 0) then refuse p .badValue
    else
      let left := byte f.remaining.toNat
      let state := deriveState c.state (some left)
      done (p.putCred f.badge { c with quota := some left, state := state }) (.quota state left)

/-- QUOTA_RELOAD (R23). -/
def execQuotaReload (tag : Byte) (body : Body QuotaFields) (s : State) : Host.Outcome State Fault Refusal :=
  command 0x06 tag body takeQuotaReload s

/-- CRED_READ (R17). -/
def takeCredRead (b : Badge) (p : Part) : Taken := onCred b p fun c => done p (.cred b c)

/-- CRED_READ (R17). -/
def execCredRead (tag : Byte) (body : Body Badge) (s : State) : Host.Outcome State Fault Refusal :=
  command 0x07 tag body takeCredRead s

/-- CRED_NEXT: the record with the least badge greater than the one given (R18). -/
def takeCredNext (b : Badge) (p : Part) : Taken :=
  match Table.next p.ret.creds b.toNat with
  | some (k, c) => done p (.cred (BitVec.ofNat 40 k) c)
  | none => refuse p .notFound

/-- CRED_NEXT (R18). -/
def execCredNext (tag : Byte) (body : Body Badge) (s : State) : Host.Outcome State Fault Refusal :=
  command 0x08 tag body takeCredNext s

end Sys2Proof.Machine
end

