-- ==== Sys2Proof/Machine/Decision.lean ====
section
/-! DEFINITION. Machine/Decision.lean: the Decision Engine: the arbiter, the ordered checks, and the placement of a call
(chapter 5, R115, R116). A decision reads the part once, gives a verdict, and writes it (R89). -/

namespace Sys2Proof.Machine

/-! ## The arbiter (R87, R88) -/

/-- A drop is eligible: UP, a request queued, no call in flight naming it (R87). -/
def Part.eligible (p : Part) (i : Nat) : Bool :=
  decide ((p.drop i).state = .up) && !(p.drop i).queue.isEmpty && !p.dropInCall i

/-- The drops in the order of a scan that starts after a position; the drop at the position comes last (R88). -/
def scanFrom (position : Nat) : List Nat := (List.range Config.drops).map fun k => (position + 1 + k) % Config.drops

/-- The first eligible drop met in the scan (R88). -/
def Part.chooseDrop (p : Part) : Option Nat := (scanFrom p.main.arbiter).find? p.eligible

/-! ## What a decision finds -/

/-- A route: the group of the leg called now and, for a transfer route, the transfer landing and the second group (R97,
R98). -/
structure Route where
  first : Byte
  transfer : Option (Byte × Byte)
  deriving DecidableEq, Repr

/-- The groups of a route, both of a transfer route (R98). -/
def Route.groups (r : Route) : List Byte :=
  match r.transfer with
  | none => [r.first]
  | some (_, second) => [r.first, second]

/-- The group that serves the final destination (R103). -/
def Route.last (r : Route) : Byte :=
  match r.transfer with
  | none => r.first
  | some (_, second) => second

/-- What a decision that passes every step places (R109, R110). -/
structure Placement where
  badge : Option Badge
  group : Byte
  firstDest : Byte
  finalDest : Option Byte
  accessible : Bool
  car : Option Byte
  /-- A trip is reserved and the charge-trip flag set (R20). -/
  reserve : Bool
  /-- The escort window admits the credential (R106). -/
  admission : Bool
  /-- The new ticket's transfer landing, second group and final destination (R138). -/
  newTicket : Option (Byte × Byte × Byte)
  /-- The ticket the call claims (R141). -/
  claim : Option Ticket
  deriving DecidableEq, Repr

/-- What a decision comes to: one answer, or a placement (R89). -/
inductive Verdict where
  | answer (a : Answer)
  | place (pl : Placement)
  deriving DecidableEq, Repr

/-- The answer DENIED with a reason. -/
def deny (why : Denial) : Verdict := .answer (.denied why)

/-- The answer NO_SERVICE with a reason. -/
def noCar (why : NoService) : Verdict := .answer (.noService why)

/-! ## Steps 1 to 4 -/

/-- Step 1: the answer REPEAT of a held memory that matches (R90). -/
def repeatAnswer (d : DropLive) (b : Badge) (landing : Option Byte) : Option Answer :=
  match d.memory with
  | none => none
  | some m =>
    if m.badge = b ∧ (landing = none ∨ landing = some m.dest) then some (.again m.group m.car m.dest) else none

/-- Step 3, tests 2 to 6, on a record that is present (R92). -/
def Part.credentialDenial (p : Part) (b : Badge) (c : Cred) : Option Denial :=
  let today := p.ret.calendar.day
  if c.state = .suspended then some .suspended
  else if !p.tenantLive c.tenant then some .tenantSuspended
  else if today < c.validFrom then some .notYetValid
  else if (match c.validTo with | some d => decide (d < today) | none => false) then some .expired
  else if p.badgeInCall b then some .badgeInCall
  else none

/-- A ticket of the badge is claimable at a drop for a request (R93). -/
def claimable (cfg : DropConfig) (b : Badge) (landing : Option Byte) (t : Ticket) : Bool :=
  decide (t.badge = b) && t.state.isIssued && decide (t.landing = cfg.landing) && inSet cfg.groups t.group.toNat &&
    (decide (landing = none) || decide (landing = some t.dest))

/-- Step 4: the claimable ticket, at a SKY drop (R93). -/
def Part.claimTicket (p : Part) (cfg : DropConfig) (b : Badge) (landing : Option Byte) : Option Ticket :=
  if cfg.kind = .sky then p.main.tickets.find? (claimable cfg b landing) else none

/-- The link and the in-service set, tested for the groups of a trip (R94, R99). -/
def Part.serviceRefusal (p : Part) (groups : List Byte) : Option NoService :=
  if p.main.link ≠ .up then some .dispatcherDown
  else if groups.any fun g => !inSet p.main.inService g.toNat then some .groupOut
  else none

/-- The effective modes, tested for the groups of a trip; a SECURITY holder passes LOCKDOWN (R94, R100). -/
def Part.modeDenial (p : Part) (groups : List Byte) (security : Bool) : Option Denial :=
  if groups.any fun g => decide (p.mode g.toNat = .recalled) then some .modeRecall
  else if !security && groups.any fun g => decide (p.mode g.toNat = .lockdown) then some .modeLockdown
  else none

/-- The holder of a request: none for an ANONYMOUS one. -/
abbrev Holder := Option (Badge × Cred)

/-- The holder's class is the one given. -/
def isClass (who : Holder) (k : CredClass) : Bool :=
  match who with
  | some (_, c) => decide (c.cls = k)
  | none => false

/-- Service, mode and call slot, tested for a claim in this order (R94). -/
def Part.claimVerdict (p : Part) (b : Badge) (c : Cred) (t : Ticket) : Verdict :=
  match p.serviceRefusal [t.group] with
  | some why => noCar why
  | none =>
    match p.modeDenial [t.group] (decide (c.cls = .security)) with
    | some why => deny why
    | none =>
      if p.freeSlot.isNone then noCar .callsFull
      else
        .place { badge := some b, group := t.group, firstDest := t.dest, finalDest := none, accessible := c.accessible
                 car := none, reserve := false, admission := false, newTicket := none, claim := some t }

/-! ## Steps 6 and 7 -/

/-- Step 6: the landing carried, the destination of the drop's escort window for an escorted holder of its tenant, the
home landing: the first present (R96). -/
def destination (d : DropLive) (landing : Option Byte) (who : Holder) : Option Byte :=
  match landing, who with
  | some l, _ => some l
  | none, none => none
  | none, some (_, c) =>
    match (if c.escort then d.escort else none) with
    | some w => if w.tenant = c.tenant then some w.dest else c.home
    | none => c.home

/-- The direct group: the lowest-numbered group of the drop's set that serves the destination (R97). -/
def Part.directGroup (p : Part) (cfg : DropConfig) (dest : Byte) : Option Nat :=
  eight.find? fun g => inSet cfg.groups g && p.serves (byte g) dest

/-- A transfer entry meets the three conditions of R98. -/
def Part.transferFits (p : Part) (cfg : DropConfig) (dest : Byte) (e : Nat × Transfer) : Bool :=
  inSet cfg.groups e.2.first.toNat && p.serves e.2.second dest && decide (e.2.landing ≠ cfg.landing)

/-- Step 7: the direct route, else the first transfer entry that fits (R97, R98). -/
def Part.route (p : Part) (cfg : DropConfig) (dest : Byte) : Option Route :=
  match p.directGroup cfg dest with
  | some g => some ⟨byte g, none⟩
  | none => (p.ret.transfers.find? (p.transferFits cfg dest)).map fun e => ⟨e.2.first, some (e.2.landing, e.2.second)⟩

/-! ## Steps 10 and 11 -/

/-- The grants of a list that cover a landing (R105). -/
def covering (grants : List Grant) (dest : Byte) : List Grant :=
  grants.filter fun g => decide (g.low ≤ dest) && decide (dest ≤ g.high)

/-- The grant test (R105). -/
def Part.grantDenial (p : Part) (grants : List Grant) (dest : Byte) : Option Denial :=
  if (covering grants dest).any fun g => p.inForce g.schedule then none
  else if (covering grants dest).isEmpty then some .notPermitted
  else some .outOfSchedule

/-- The effective floor grants of a credential (R42). -/
def Part.effectiveFloors (p : Part) (c : Cred) : List Grant :=
  match (if c.tenant = 0 then none else p.tenant c.tenant) with
  | none => []
  | some r =>
    match p.overlayOf c.tenant with
    | none => r.grants
    | some (_, o) =>
      match o.scope with
      | some .all => o.grants
      | some .trial => if c.trial then o.grants else r.grants
      | none => r.grants

/-- Step 11 for a TENANT destination (R103). -/
def Part.tenantLandingDenial (p : Part) (who : Holder) (route : Route) (dest : Byte) : Option Denial :=
  if p.mode route.last.toNat = .opened then none
  else
    match who with
    | none => some .badgeNeeded
    | some (_, c) => p.grantDenial (p.effectiveFloors c ++ c.grants) dest

/-- Step 11: permission, by class and landing kind (R102 to R105). -/
def Part.permissionDenial (p : Part) (who : Holder) (route : Route) (dest : Byte) : Option Denial :=
  if isClass who .security then none
  else
    match p.kindOf dest, who with
    | .publicLanding, _ => none
    | .sky, _ => none
    | .tenant, _ => p.tenantLandingDenial who route dest
    | .secure, none => some .badgeNeeded
    | .secure, some (_, c) => if c.cls = .visitor then some .notPermitted else p.grantDenial c.grants dest
    | .plant, none => some .badgeNeeded
    | .plant, some (_, c) => if c.cls = .service then none else some .notPermitted
    | .closed, none => some .badgeNeeded
    | .closed, some _ => some .notPermitted

/-- Step 10: a VISITOR at a SKY drop whose destination is neither PUBLIC nor SKY (R101). -/
def Part.needsTicket (p : Part) (cfg : DropConfig) (who : Holder) (dest : Byte) : Bool :=
  decide (cfg.kind = .sky) && isClass who .visitor &&
    decide (p.kindOf dest ≠ .publicLanding) && decide (p.kindOf dest ≠ .sky)

/-! ## Steps 12 to 15 -/

/-- The request's credential is subject to the escort check (R106). -/
def escorted (who : Holder) : Bool :=
  match who with
  | some (_, c) => c.escort
  | none => false

/-- The escort window admits a credential (R106). -/
def admits (d : DropLive) (who : Holder) : Bool :=
  match d.escort, who with
  | some w, some (_, c) => decide (w.tenant = c.tenant) && decide (w.admitted < Config.escorted)
  | _, _ => false

/-- Step 13 reaches a full pool: a transfer route, a badge, 1024 tickets (R107). -/
def Part.poolIsFull (p : Part) (who : Holder) (route : Route) : Bool :=
  route.transfer.isSome && who.isSome && decide (Config.tickets ≤ p.main.tickets.length)

/-- The placement of a request that passes every step (R109, R110). -/
def Part.placement (p : Part) (d : DropLive) (who : Holder) (route : Route) (dest : Byte) : Placement where
  badge := who.map Prod.fst
  group := route.first
  firstDest := match route.transfer with
    | none => dest
    | some (landing, _) => landing
  finalDest := match route.transfer with
    | none => none
    | some _ => some dest
  accessible := match who with
    | some (_, c) => c.accessible
    | none => false
  car := if escorted who then d.escort.map EscortWindow.car else none
  reserve := match who with
    | some (_, c) => c.quota.isSome
    | none => false
  admission := escorted who
  newTicket := match route.transfer with
    | none => none
    | some (landing, second) => if who.isSome && !p.poolIsFull who route then some (landing, second, dest) else none
  claim := none

/-- Steps 8 to 15, with the route found. The flag says that step 13 was reached with the pool full (R107). -/
def Part.tripVerdict (p : Part) (d : DropLive) (cfg : DropConfig) (who : Holder) (route : Route) (dest : Byte) :
    Verdict × Bool :=
  match p.serviceRefusal route.groups with
  | some why => (noCar why, false)
  | none =>
    match p.modeDenial route.groups (isClass who .security) with
    | some why => (deny why, false)
    | none =>
      if p.needsTicket cfg who dest then (deny .noTicket, false)
      else
        match p.permissionDenial who route dest with
        | some why => (deny why, false)
        | none =>
          if escorted who && !admits d who then (deny .escortRequired, false)
          else if p.poolIsFull who route && isClass who .visitor then (deny .ticketPoolFull, true)
          else if p.freeSlot.isNone then (noCar .callsFull, p.poolIsFull who route)
          else (.place (p.placement d who route dest), p.poolIsFull who route)

/-- Steps 6 to 15 (R96 to R109). -/
def Part.ordinaryVerdict (p : Part) (d : DropLive) (cfg : DropConfig) (landing : Option Byte) (who : Holder) :
    Verdict × Bool :=
  match destination d landing who with
  | none => (deny .noDestination, false)
  | some dest =>
    if dest = cfg.landing then (deny .noRoute, false)
    else
      match p.route cfg dest with
      | none => (deny .noRoute, false)
      | some route => p.tripVerdict d cfg who route dest

/-- Steps 2 to 15 of a badge request that step 1 has passed (R91 to R95). -/
def Part.badgeVerdict (p : Part) (d : DropLive) (cfg : DropConfig) (b : Badge) (landing : Option Byte) : Verdict × Bool :=
  if !p.ret.calendar.valid then (deny .calendarInvalid, false)
  else
    match p.cred b with
    | none => (deny .unknownBadge, false)
    | some c =>
      match p.credentialDenial b c with
      | some why => (deny why, false)
      | none =>
        match p.claimTicket cfg b landing with
        | some t => (p.claimVerdict b c t, false)
        | none =>
          if c.state = .exhausted then (deny .quotaExhausted, false)
          else p.ordinaryVerdict d cfg landing (some (b, c))

/-- The ordered checks of a request, and whether it sets TICKET_POOL_FULL (section 5.2). -/
def Part.verdict (p : Part) (d : DropLive) (cfg : DropConfig) (r : Request) : Verdict × Bool :=
  match requestBadge r with
  | none => p.ordinaryVerdict d cfg (requestLanding r) none
  | some b =>
    match repeatAnswer d b (requestLanding r) with
    | some a => (.answer a, false)
    | none => p.badgeVerdict d cfg b (requestLanding r)

/-! ## The writes of a decision -/

/-- The number after a call number: numbers are never 0 (R115). -/
def numberAfter (n : Half) : Half := if n = 65535#16 then 1 else n + 1

/-- The first number after the counter that no call in flight holds; the tries are bounded (R115). -/
def Part.numberFrom (p : Part) : Nat → Half → Half
  | 0, n => numberAfter n
  | k + 1, n => if (p.callNumbered (numberAfter n)).isSome then p.numberFrom k (numberAfter n) else numberAfter n

/-- The number of the next call: with at most 31 other calls a free one is found within 32 tries (R115). -/
def Part.nextNumber (p : Part) : Half := p.numberFrom Config.callSlots p.main.counter

/-- The call of a placement (R110, R116). -/
def Part.callOf (p : Part) (i : Nat) (cfg : DropConfig) (pl : Placement) : Call where
  number := p.nextNumber
  drop := i
  badge := pl.badge
  group := pl.group
  origin := cfg.landing
  firstDest := pl.firstDest
  finalDest := pl.finalDest
  accessible := pl.accessible
  claim := pl.claim.isSome
  car := pl.car
  charge := pl.reserve
  expiry := p.main.now + p.ret.params.callTimeout

/-- CALL_PLACE of a call (R116). -/
def placeFrame (c : Call) : DispatcherFrame := .callPlace c.number c.group c.origin c.firstDest c.accessible c.car

/-- The trip reserved (R109, item 1). -/
def Part.reserveFor (p : Part) (pl : Placement) : Part :=
  match pl.reserve, pl.badge with
  | true, some b => p.reserve b
  | _, _ => p

/-- A claimed ticket is CLAIMED and linked, its expiry kept (R141). -/
def claimedTicket (l : CallLink) (t : Ticket) : Ticket :=
  match t.state with
  | .issued e => { t with state := .claimed e l }
  | .pending _ => t
  | .claimed _ _ => t

/-- The ticket of a placement: a PENDING ticket at the newest end, or the claimed one (R109, item 2; R138, R141). -/
def Part.ticketFor (p : Part) (pl : Placement) (l : CallLink) : Part :=
  match pl.claim with
  | some t => p.withTickets (p.main.tickets.map fun u => if u = t then claimedTicket l u else u)
  | none =>
    match pl.newTicket, pl.badge with
    | some (landing, second, dest), some b =>
      p.withTickets (p.main.tickets ++ [⟨b, landing, second, dest, .pending l⟩])
    | _, _ => p

/-- The escort admission (R109, item 3). -/
def Part.admitAt (p : Part) (i : Nat) (pl : Placement) : Part :=
  if pl.admission then
    let d := p.drop i
    p.setDrop i { d with escort := d.escort.map fun w => { w with admitted := w.admitted + 1 } }
  else p

/-- The call takes its slot and number and CALL_PLACE is sent (R109, item 4; R116). -/
def Part.fill (p : Part) (slot : Nat) (c : Call) : Part :=
  ({ p with main := { p.main with calls := Table.put p.main.calls slot c, counter := c.number } }).send (placeFrame c)

/-- The placement step, taken whole (R109). A placement always finds a FREE slot (R113). -/
def Part.place (p : Part) (i : Nat) (cfg : DropConfig) (pl : Placement) : Part :=
  match p.freeSlot with
  | none => p
  | some slot =>
    let c := p.callOf i cfg pl
    (((p.reserveFor pl).ticketFor pl ⟨c.number, slot⟩).admitAt i pl).fill slot c

/-- A verdict written (R89). -/
def Part.enact (p : Part) (i : Nat) (cfg : DropConfig) (v : Verdict) : Part :=
  match v with
  | .answer a => p.tell i a
  | .place pl => p.place i cfg pl

/-- The configuration of a drop; a drop that is UP is configured, so the default is never read (log 29). -/
def Part.dropConfig (p : Part) (i : Nat) : DropConfig := Table.get ⟨.lobby, 0xFF#8, 0⟩ p.ret.drops i

/-- The head request leaves the queue and the arbiter's position becomes the chosen drop (R88, R89). -/
def Part.takeRequest (p : Part) (i : Nat) : Part :=
  let q := p.setDrop i { p.drop i with queue := (p.drop i).queue.tail }
  { q with main := { q.main with arbiter := i } }

/-- One decision for a drop (R89). -/
def Part.decideAt (p : Part) (i : Nat) : Part :=
  match (p.drop i).queue with
  | [] => p
  | r :: _ =>
    let cfg := p.dropConfig i
    let v := p.verdict (p.drop i) cfg r
    let q := p.takeRequest i
    (if v.2 then q.raisePoolFull else q).enact i cfg v.1

/-- The arbiter takes one decision; with no eligible drop there is none (R88). -/
def Part.decision (p : Part) : Part :=
  match p.chooseDrop with
  | none => p
  | some i => p.decideAt i

/-- DECISION (R89). -/
def execDecision (s : State) : Host.Outcome State Fault Refusal := whileRunning s Part.decision

end Sys2Proof.Machine
end

