-- ==== Sys2Proof/Machine/Modes.lean ====
section
/-! DEFINITION. Machine/Modes.lean: the Service Mode Unit: alarm lines, demands, recall latches, effective modes
(chapter 9). -/

namespace Sys2Proof.Machine

/-! ## Demands, latches and effective modes -/

/-- A management mark of a mode (R175). -/
def Marks.has (k : Marks) : Mode → Bool
  | .normal => false
  | .opened => k.opened
  | .lockdown => k.lockdown
  | .recalled => k.recalled

/-- A line holds a demand of a mode on a group (R174). -/
def Part.lineHolds (p : Part) (n g : Nat) (m : Mode) : Bool :=
  match p.lineDemand n with
  | some (m', gs) => decide (m' = m) && inSet gs g
  | none => false

/-- A demand of a mode is held on a group, by a line or by the management mark (R175). -/
def Part.holds (p : Part) (g : Nat) (m : Mode) : Bool := (p.marksOf g).has m || eight.any fun n => p.lineHolds n g m

/-- The effective mode of a group (R178). -/
def Part.effectiveMode (p : Part) (g : Nat) : Mode :=
  if inSet p.ret.latches g then .recalled
  else if p.holds g .recalled then .recalled
  else if p.holds g .lockdown then .lockdown
  else if p.holds g .opened then .opened
  else .normal

/-- The recall latch is set while a RECALL demand is held (R176). -/
def Part.latch (p : Part) (g : Nat) : Part :=
  if p.holds g .recalled then p.withLatches (setPut p.ret.latches g true) else p

/-- One call of a recalled group: CALL_CANCEL, then the unwinding (R124). -/
def Part.cancelCall (p : Part) (e : Nat × Call) : Part := (p.send (.callCancel e.2.number)).unwind e.1 e.2 .cancelled

/-- Every call in flight on a group is cancelled, in ascending slot order (R124). -/
def Part.cancelCalls (p : Part) (g : Nat) : Part :=
  (p.main.calls.filter fun e => decide (e.2.group = byte g)).foldl Part.cancelCall p

/-- Every ticket whose second group is the group leaves the pool (R146). -/
def Part.removeGroupTickets (p : Part) (g : Nat) : Part := p.removeTickets fun t => decide (t.group = byte g)

/-- The held mode replaced. -/
def Part.putMode (p : Part) (g : Nat) (m : Mode) : Part := p.withModes (Table.set .normal p.main.modes g m)

/-- A change of a group's effective mode, taken in one step: the notice and, for RECALL, the cancellations and the ticket
removal (R179; log 22). -/
def Part.changeMode (p : Part) (g : Nat) (m : Mode) : Part :=
  let q := (p.putMode g m).notice g
  if m = .recalled then (q.cancelCalls g).removeGroupTickets g else q

/-- A group's latch and effective mode recomputed (R176, R178). -/
def Part.refreshGroup (p : Part) (g : Nat) : Part :=
  let q := p.latch g
  if q.effectiveMode g = q.mode g then q else q.changeMode g (q.effectiveMode g)

/-- Every group recomputed, in ascending group number (R178, R179; log 21). -/
def Part.refreshAll (p : Part) : Part := eight.foldl Part.refreshGroup p

/-! ## Alarm lines -/

/-- A line's live state set. -/
def Part.setLine (p : Part) (n : Nat) (l : LineLive) : Part :=
  { p with main := { p.main with lines := Table.set .quiet p.main.lines n l } }

/-- A line's status set (R172). -/
def Part.setStatus (p : Part) (n : Nat) : Part := p.withLineStatus (setPut p.ret.lineStatus n true)

/-- The debounced level takes the raw level; an inactive-to-active change sets the status (R171, R172). -/
def Part.debounced (p : Part) (n : Nat) (raw : Bool) : Part :=
  let q := p.setLine n ⟨raw, raw, none⟩
  if !p.lineActive n && q.lineActive n then (q.setStatus n).refreshAll else q

/-- A change of a line's raw level, by the new level and the timer (R171): a level that equals the debounced one stops the
timer; one that differs starts it, or starts it afresh where it runs, so that its old end is not taken (R183); with no
debounce time a level that differs is taken at once. A change that brings the level already held stands for a change
there and back (log 32). -/
def Part.rawChange (p : Part) (n : Nat) (high : Bool) : Part :=
  let l := p.lineLive n
  let time := (p.lineConfig n).debounce
  if high = l.debounced then p.setLine n { l with raw := high, timer := none }
  else if time = 0 then p.debounced n high
  else p.setLine n { l with raw := high, timer := some (p.main.now + time) }

/-- RAW_LEVEL_CHANGE (R171). -/
def execRawLevelChange (line : Fin 8) (high : Bool) (s : State) : Host.Outcome State Fault Refusal :=
  whileRunning s fun p => p.rawChange line.val high

/-- A debounce timer ends once its end is reached (R171). -/
def Part.endDebounce (p : Part) (n : Nat) : Part :=
  match (p.lineLive n).timer with
  | none => p
  | some e => if e ≤ p.main.now then p.debounced n (p.lineLive n).raw else p

/-- DEBOUNCE_END (R171). -/
def execDebounceEnd (line : Fin 8) (s : State) : Host.Outcome State Fault Refusal :=
  whileRunning s fun p => p.endDebounce line.val

/-- The part with a line's configuration replaced. -/
def Part.putLineConfig (p : Part) (n : Nat) (c : LineConfig) : Part :=
  { p with ret := { p.ret with lines := Table.set .defaults p.ret.lines n c } }

/-- An ALARM_SET sets the status of a line that its new polarity makes active, and of a line turned from EDGE to LEVEL
whose debounced level is active (R170, items 2 and 3). -/
def Part.setRaises (p q : Part) (n : Nat) : Bool :=
  q.lineActive n && (!p.lineActive n ||
    (decide ((p.lineConfig n).type = .edge) && decide ((q.lineConfig n).type = .level)))

/-- The part after an accepted ALARM_SET (R170). -/
def Part.configureLine (p : Part) (n : Nat) (c : LineConfig) : Part :=
  let q := p.putLineConfig n c
  (if p.setRaises q n then q.setStatus n else q).refreshAll

/-- ALARM_SET (R170). -/
def takeAlarmSet (f : AlarmFields) (p : Part) : Taken :=
  match lineConfigOf f with
  | none => refuse p .badValue
  | some c => done (p.configureLine f.line.toNat c) .nothing

/-- ALARM_SET (R170). -/
def execAlarmSet (tag : Byte) (body : Body AlarmFields) (s : State) : Host.Outcome State Fault Refusal :=
  command 0x29 tag body takeAlarmSet s

/-- A line keeps its status through an acknowledgement: a LEVEL line whose debounced level is active (R172, R173). -/
def Part.holdsStatus (p : Part) (n : Nat) : Bool := decide ((p.lineConfig n).type = .level) && p.lineActive n

/-- The line statuses after an acknowledgement of a set of lines (R173). -/
def Part.ackedStatus (p : Part) (set : Set8) : Set8 :=
  bitsOf 8 fun n => if inSet set n then p.holdsStatus n else inSet p.ret.lineStatus n

/-- ALARM_ACK (R173). -/
def takeAlarmAck (set : Set8) (p : Part) : Taken :=
  let q := (p.withLineStatus (p.ackedStatus set)).refreshAll
  done q (.lineStatuses q.ret.lineStatus)

/-- ALARM_ACK (R173). -/
def execAlarmAck (tag : Byte) (body : Body Set8) (s : State) : Host.Outcome State Fault Refusal :=
  command 0x2A tag body takeAlarmAck s

/-- What ALARM_READ returns of a line (R180). -/
def Part.lineView (p : Part) (n : Nat) : LineView where
  config := p.lineConfig n
  raw := (p.lineLive n).raw
  debounced := (p.lineLive n).debounced
  active := p.lineActive n
  timer := (p.lineLive n).timer
  status := inSet p.ret.lineStatus n
  demands := (p.lineDemand n).isSome
  raises := p.lineRaises n

/-- ALARM_READ (R180). -/
def execAlarmRead (tag : Byte) (body : Body Unit) (s : State) : Host.Outcome State Fault Refusal :=
  command 0x2B tag body (readOnly fun p => .alarms (eight.map p.lineView) p.main.now) s

/-! ## Management demands and GROUP_RESUME -/

/-- A mark given a value (R175). -/
def Marks.put (k : Marks) (m : Mode) (on : Bool) : Marks :=
  match m with
  | .normal => k
  | .opened => { k with opened := on }
  | .lockdown => { k with lockdown := on }
  | .recalled => { k with recalled := on }

/-- The part with a mark of a group given a value. -/
def Part.setMark (p : Part) (g : Nat) (m : Mode) (on : Bool) : Part :=
  { p with main := { p.main with marks := Table.set .off p.main.marks g ((p.marksOf g).put m on) } }

/-- MODE_DEMAND (R175; log 16, log 21). -/
def takeModeDemand (f : DemandFields) (p : Part) : Taken :=
  if !groupOk f.group then refuse p .badValue
  else
    match demandMode f.mode, flagOfCode f.on with
    | some m, some on =>
      let q := (p.setMark f.group.toNat m on).refreshGroup f.group.toNat
      done q (.mode (q.mode f.group.toNat))
    | _, _ => refuse p .badValue

/-- MODE_DEMAND (R175). -/
def execModeDemand (tag : Byte) (body : Body DemandFields) (s : State) : Host.Outcome State Fault Refusal :=
  command 0x2C tag body takeModeDemand s

/-- The part with a group's recall released: the latch cleared and the mode recomputed (R177). -/
def Part.resume (p : Part) (g : Nat) : Part :=
  if inSet p.ret.latches g then (p.withLatches (setPut p.ret.latches g false)).refreshGroup g else p

/-- GROUP_RESUME (R177). -/
def takeGroupResume (g : Byte) (p : Part) : Taken :=
  if !groupOk g then refuse p .badValue
  else if p.holds g.toNat .recalled then refuse p .demandActive
  else done (p.resume g.toNat) (.mode ((p.resume g.toNat).mode g.toNat))

/-- GROUP_RESUME (R177). -/
def execGroupResume (tag : Byte) (body : Body Byte) (s : State) : Host.Outcome State Fault Refusal :=
  command 0x2D tag body takeGroupResume s

/-- The lines that hold a demand on a group, each with its mode (R180). -/
def Part.linesOn (p : Part) (g : Nat) : List (Nat × Mode) :=
  eight.filterMap fun n =>
    match p.lineDemand n with
    | some (m, gs) => if inSet gs g then some (n, m) else none
    | none => none

/-- MODE_READ (R180). -/
def takeModeRead (g : Byte) (p : Part) : Taken :=
  if !groupOk g then refuse p .badValue
  else
    done p (.modeOf (inSet p.ret.latches g.toNat) (p.marksOf g.toNat) (p.linesOn g.toNat) (p.mode g.toNat))

/-- MODE_READ (R180). -/
def execModeRead (tag : Byte) (body : Body Byte) (s : State) : Host.Outcome State Fault Refusal :=
  command 0x2E tag body takeModeRead s

end Sys2Proof.Machine
end

