-- ==== Sys2Proof/Machine/Panels.lean ====
section
/-! DEFINITION. Machine/Panels.lean: the Panel Link Controllers: polls, replies, misses, the memories' ends, and the start
and gap of a frame on any link (chapter 8, R203). -/

namespace Sys2Proof.Machine

/-- The number of a drop: link × 16 + address, which is also its drop byte (R204). -/
def dropIndex (link address : Nat) : Nat := Config.addresses * link + address

/-! ## Polling (R151, R152) -/

/-- The addresses of the configured drops of a link, ascending (R151). -/
def Part.polledAddresses (p : Part) (link : Nat) : List Nat :=
  (List.range Config.addresses).filter fun a => (Table.lookup p.ret.drops (dropIndex link a)).isSome

/-- The address of the next poll: the least configured one above the position, else the least configured one (R151). -/
def Part.nextAddress (p : Part) (link : Nat) : Option Nat :=
  let all := p.polledAddresses link
  match (p.panelLink link).position with
  | none => all.head?
  | some q => (all.find? fun a => decide (q < a)).or all.head?

/-- The answer at the head of a list is marked carried (R152). -/
def markCarried : List AnswerEntry → List AnswerEntry
  | [] => []
  | e :: t => { e with carried := true } :: t

/-- The poll of an address, with the oldest answer of the drop's list; AGAIN when its carried mark is set (R152). -/
def pollOf (address : Nat) (d : DropLive) : Poll :=
  match d.answers with
  | [] => ⟨address, none, false, false⟩
  | e :: _ => ⟨address, some e.answer, e.carried, false⟩

/-- When no poll is outstanding on a link that has a configured drop, the next poll is sent (R151, R152). -/
def Part.sendPoll (p : Part) (link : Nat) : Part :=
  let k := p.panelLink link
  if k.poll.isSome then p
  else
    match p.nextAddress link with
    | none => p
    | some a =>
      let i := dropIndex link a
      let d := p.drop i
      (p.setDrop i { d with answers := markCarried d.answers }).setLink link ⟨some a, some (pollOf a d)⟩

/-- The poll ends and the next one is sent, in the same step (R153). -/
def Part.endPoll (p : Part) (link : Nat) : Part :=
  (p.setLink link { p.panelLink link with poll := none }).sendPoll link

/-- A drop reset by an accepted PANEL_SET (R82). -/
def Part.resetDrop (p : Part) (i : Nat) (configured : Bool) : Part :=
  p.setDrop i (.emptied (if configured then .qualifying else .unconfigured))

/-! ## Replies and misses -/

/-- A request joins the queue of an UP drop, or is answered BUSY when that holds two (R159, R160). -/
def DropLive.ask (d : DropLive) (r : Request) : DropLive :=
  if d.queue.length < Config.requestQueue then { d with queue := d.queue ++ [r] }
  else { d with answers := d.answers ++ [⟨.busy, false⟩] }

/-- The answer the poll carried leaves the head of the list (R163). -/
def DropLive.acknowledge (d : DropLive) (carried : Bool) : DropLive :=
  if carried then { d with answers := d.answers.tail } else d

/-- A valid reply in an UP drop: the miss run cleared, the acknowledgement, then the request (R155). -/
def DropLive.heard (d : DropLive) (carried : Bool) (request : Option Request) : DropLive :=
  let acked := ({ d with missRun := 0 }).acknowledge carried
  match request with
  | some r => acked.ask r
  | none => acked

/-- A valid reply, as the live state of the polled drop gives it (R155, R158). -/
def Part.takeReply (p : Part) (i : Nat) (poll : Poll) (request : Option Request) : Part :=
  let d := p.drop i
  match d.state with
  | .unconfigured => p
  | .down => p.setDrop i { d with state := .qualifying, qualifyRun := 1 }
  | .qualifying =>
    if p.ret.params.dropQualify ≤ d.qualifyRun + 1 then p.setDrop i { d with state := .up, qualifyRun := 0 }
    else p.setDrop i { d with qualifyRun := d.qualifyRun + 1 }
  | .up => p.setDrop i (d.heard poll.answer.isSome request)

/-- A miss, as the live state of the polled drop gives it (R156, R157). -/
def Part.takeMiss (p : Part) (i : Nat) : Part :=
  let d := p.drop i
  match d.state with
  | .unconfigured => p
  | .down => p
  | .qualifying => p.setDrop i { d with state := .down, qualifyRun := 0 }
  | .up =>
    if p.ret.params.missLimit ≤ d.missRun + 1 then (p.setDrop i (.emptied .down)).raisePanelDown
    else p.setDrop i { d with missRun := d.missRun + 1 }

/-- The outstanding poll of a link ends as a miss; with no poll outstanding nothing counts (R153, R156). -/
def Part.missPoll (p : Part) (link : Nat) : Part :=
  match (p.panelLink link).poll with
  | none => p
  | some poll => (p.takeMiss (dropIndex link poll.address)).endPoll link

/-- A frame that reads as a reply is taken against the outstanding poll: another address is a miss, and without a poll it
is discarded (R153, R208). -/
def Part.replyFrame (p : Part) (link address : Nat) (request : Option Request) : Part :=
  match (p.panelLink link).poll with
  | none => p
  | some poll =>
    if address = poll.address then (p.takeReply (dropIndex link poll.address) poll request).endPoll link
    else p.missPoll link

/-! ## The ends of frames on a panel link (R203, R208) -/

/-- A receiver is receiving a frame (R203). -/
def Part.isReceiving (p : Part) (w : Wire) : Bool := inSet p.main.receiving (wireIndex w)

/-- The frame under way on a panel link is late: its poll was ended by the reply window (R208). -/
def Part.isLate (p : Part) (link : Nat) : Bool := inSet p.main.late link

/-- The part with the late mark of a link given a value. -/
def Part.markLate (p : Part) (link : Nat) (late : Bool) : Part :=
  { p with main := { p.main with late := setPut p.main.late link late } }

/-- A frame has ended on a panel link: its receiver hunts again and its late mark goes. A late frame arrives with no poll of
its own outstanding and is discarded; any other is judged (R153, R208). That the frame is discarded although R153 has the
next poll sent in the step that ended its own is log 31. -/
def Part.panelFrame (p : Part) (link : Fin 6) (judge : Part → Part) : Part :=
  let q := (p.hunt (.panel link)).markLate link.val false
  if p.isLate link.val then q else judge q

/-- VALID_REPLY (R155). -/
def execValidReply (link : Fin 6) (address : Fin 16) (request : Option Request) (s : State) :
    Host.Outcome State Fault Refusal :=
  whileRunning s fun p => p.panelFrame link fun q => q.replyFrame link.val address.val request

/-- INVALID_REPLY: a frame that is no valid reply ends the outstanding poll as a miss (R153, R208). -/
def execInvalidReply (link : Fin 6) (s : State) : Host.Outcome State Fault Refusal :=
  whileRunning s fun p => p.panelFrame link fun q => q.missPoll link.val

/-- The end of the reply window ends the poll as a miss, when the window runs (R153; log 24). A frame still being received
will then arrive with its poll ended, and is marked late (R208; log 31). -/
def Part.windowEnd (p : Part) (link : Fin 6) : Part :=
  match (p.panelLink link.val).poll with
  | none => p
  | some poll =>
    if poll.windowRunning then (p.markLate link.val (p.isReceiving (.panel link))).missPoll link.val else p

/-- REPLY_WINDOW_END (R153). -/
def execReplyWindowEnd (link : Fin 6) (s : State) : Host.Outcome State Fault Refusal :=
  whileRunning s fun p => p.windowEnd link

/-- UNSOLICITED_PANEL_FRAME: discarded, counting for no drop (R153, R208; log 13). -/
def execUnsolicitedPanelFrame (link : Fin 6) (s : State) : Host.Outcome State Fault Refusal :=
  whileRunning s fun p => p.panelFrame link id

/-- The last byte of the outstanding poll has been sent and the reply window starts (R153). -/
def Part.startWindow (p : Part) (link : Nat) : Part :=
  match (p.panelLink link).poll with
  | none => p
  | some poll => p.setLink link { p.panelLink link with poll := some { poll with windowRunning := true } }

/-- POLL_SENT (R153). -/
def execPollSent (link : Fin 6) (s : State) : Host.Outcome State Fault Refusal :=
  whileRunning s fun p => p.startWindow link.val

/-! ## The receivers (R203) -/

/-- A hunting receiver begins a frame; a 7Eh inside a frame is data (R203). -/
def Part.beginFrame (p : Part) (w : Wire) : Part :=
  { p with main := { p.main with receiving := setPut p.main.receiving (wireIndex w) true } }

/-- FRAME_START (R203). -/
def execFrameStart (wire : Wire) (s : State) : Host.Outcome State Fault Refusal :=
  whileRunning s fun p => p.beginFrame wire

/-- A frame that failed its check by a gap has ended: on a panel link the outstanding poll ends as a miss, unless the frame
was late (log 31); the other links discard it (R203, R208). -/
def Part.gapOn (p : Part) : Wire → Part
  | .panel link => p.panelFrame link fun q => q.missPoll link.val
  | .dispatcher => p.hunt .dispatcher
  | .management => p.hunt .management

/-- FRAME_GAP_TIMEOUT: the frame being received ends at once (R203). -/
def execFrameGapTimeout (wire : Wire) (s : State) : Host.Outcome State Fault Refusal :=
  whileRunning s fun p => if p.isReceiving wire then p.gapOn wire else p

/-! ## The ends of the memories (R164, R165) -/

/-- The repeat memory of a drop becomes empty once its end is reached (R164). -/
def Part.endMemory (p : Part) (i : Nat) : Part :=
  match (p.drop i).memory with
  | none => p
  | some m => if m.ends ≤ p.main.now then p.setDrop i { p.drop i with memory := none } else p

/-- REPEAT_MEMORY_END (R164). -/
def execRepeatMemoryEnd (drop : Fin 96) (s : State) : Host.Outcome State Fault Refusal :=
  whileRunning s fun p => p.endMemory drop.val

/-- The escort window of a drop closes once its end is reached (R165). -/
def Part.endEscort (p : Part) (i : Nat) : Part :=
  match (p.drop i).escort with
  | none => p
  | some w => if w.ends ≤ p.main.now then p.setDrop i { p.drop i with escort := none } else p

/-- ESCORT_WINDOW_END (R165). -/
def execEscortWindowEnd (drop : Fin 96) (s : State) : Host.Outcome State Fault Refusal :=
  whileRunning s fun p => p.endEscort drop.val

/-- DROP_READ (R167). -/
def takeDropRead (d : Byte) (p : Part) : Taken :=
  if !dropOk d then refuse p .badValue
  else
    let link := d.toNat / Config.addresses
    let outstanding := match (p.panelLink link).poll with
      | none => false
      | some poll => decide (dropIndex link poll.address = d.toNat)
    done p (.drop (p.drop d.toNat) outstanding p.main.now)

/-- DROP_READ (R167). -/
def execDropRead (tag : Byte) (body : Body Byte) (s : State) : Host.Outcome State Fault Refusal :=
  command 0x28 tag body takeDropRead s

end Sys2Proof.Machine
end

