-- ==== Sys2Proof/Machine/Power.lean ====
section
/-! DEFINITION. Machine/Power.lean: Power Control: the two wells, the main stop and the start sequence (chapter 11). -/

namespace Sys2Proof.Machine

/-! ## The main stop (R199) -/

/-- The retention well as a main stop leaves it: kept, and lost when no retention supply takes it over (R196, R199;
log 10). -/
def Retention.afterStop (r : Retention) (supply : Bool) : Retention := if supply then r else { r with intact := false }

/-- A main stop: every piece of main-well state is void and the well is OFF (R199). -/
def State.mainStop (s : State) : State := { s with ret := s.ret.afterStop s.retentionSupply, well := .off }

/-- The start condition holds while MAIN_OK is high and the reset input is released (R198). -/
def State.startCondition (s : State) : Bool := s.mainOk && s.resetReleased

/-- A main stop by RESTART: with the start condition holding, qualification begins at once (R200; log 12). -/
def State.restartStop (s : State) : State :=
  let t := s.mainStop
  if t.startCondition then { t with well := .qualifying } else t

/-- The well when the start condition begins to hold (R198). -/
def Well.begin : Well → Well
  | .off => .qualifying
  | .qualifying => .qualifying
  | .running m => .running m

/-- START_CONDITION_BEGINS: both inputs good (R198). -/
def execStartConditionBegins (s : State) : Host.Outcome State Fault Refusal :=
  .next { s with mainOk := true, resetReleased := true, well := s.well.begin }

/-- The start condition ceases to hold: a qualifying well is OFF again, a running one stops (R198, R199). -/
def State.ceases (s : State) : State :=
  match s.well with
  | .off => s
  | .qualifying => { s with well := .off }
  | .running _ => s.mainStop

/-- START_CONDITION_CEASES, with the levels the inputs take; with both good the condition has not ceased (R198; log 6). -/
def execStartConditionCeases (mainOk resetReleased : Bool) (s : State) : Host.Outcome State Fault Refusal :=
  .next (if mainOk && resetReleased then s
    else { s with mainOk := mainOk, resetReleased := resetReleased }.ceases)

/-! ## The start sequence (R201) -/

/-- The trip reserved flag of every record cleared (R201, item 2). -/
def clearReservations (t : Table Cred) : Table Cred := t.map fun e => (e.1, { e.2 with reserved := false })

/-- Every configured drop is DOWN (R201, item 4). -/
def startDrops (t : Table DropConfig) : Table DropLive := t.map fun e => (e.1, .emptied .down)

/-- The numbers of the panel links. -/
def panelLinks : List Nat := [0, 1, 2, 3, 4, 5]

/-- Each Panel Link Controller sends its first poll (R201, item 4). -/
def Part.firstPolls (p : Part) : Part := panelLinks.foldl Part.sendPoll p

/-- A line at start: its raw level read, its debounced level inactive, its debounce begun; an active line with no debounce
time is active at once and sets its status (R171, R201, item 6). -/
def Part.startLine (levels : Set8) (p : Part) (n : Nat) : Part :=
  let cfg := p.lineConfig n
  let raw := inSet levels n
  let rest := cfg.polarity.inactive
  if raw = rest then p.setLine n ⟨raw, rest, none⟩
  else if cfg.debounce = 0 then (p.setLine n ⟨raw, raw, none⟩).setStatus n
  else p.setLine n ⟨raw, rest, some (p.main.now + cfg.debounce)⟩

/-- Every line at start, then the latches of the RECALL demands (R201, item 6). -/
def Part.startLines (p : Part) (levels : Set8) : Part := eight.foldl Part.latch (eight.foldl (Part.startLine levels) p)

/-- The effective mode of a group computed at start, not taken as a change (R181, R201, item 7). -/
def Part.startMode (p : Part) (g : Nat) : Part := p.putMode g (p.effectiveMode g)

/-- The modes computed and told to the dispatcher (R201, item 7). -/
def Part.startModes (p : Part) : Part := (eight.foldl Part.startMode p).noticeAll

/-- The working part as the start sequence makes it of an intact retention well, the lines' raw levels as read (R201). -/
def startSequence (r : Retention) (levels : Set8) : Part :=
  let begun : Part :=
    ⟨{ r with creds := clearReservations r.creds }, { Main.fresh with drops := startDrops r.drops }⟩
  (begun.firstPolls.startLines levels).startModes

/-- The test of the retention-intact indication, taken when the well gains power (R197). -/
def Retention.powered (r : Retention) : Retention := if r.intact then r else .afterLoss

/-- START_SEQUENCE, taken of a qualifying well; a lost retention well is rebuilt before it (R197, R198, R201). -/
def execStartSequence (levels : Set8) (s : State) : Host.Outcome State Fault Refusal :=
  match s.well with
  | .off => .next s
  | .qualifying => .next (s.withPart (startSequence s.ret.powered levels))
  | .running _ => .next s

/-! ## The retention supply (R196, R197) -/

/-- RETENTION_POWER_GAIN: the supply is present and the indication is tested (R197). -/
def execRetentionPowerGain (s : State) : Host.Outcome State Fault Refusal :=
  .next { s with ret := s.ret.powered, retentionSupply := true }

/-- The retention well when the supply is lost: with the main well RUNNING it has no effect, else the well is lost (R196;
log 9, log 11). -/
def State.supplyLost (s : State) : State :=
  match s.well with
  | .off => { s with ret := { s.ret with intact := false }, retentionSupply := false }
  | .qualifying => { s with ret := { s.ret with intact := false }, retentionSupply := false }
  | .running _ => { s with retentionSupply := false }

/-- RETENTION_SUPPLY_LOSS (R196). -/
def execRetentionSupplyLoss (s : State) : Host.Outcome State Fault Refusal := .next s.supplyLost

end Sys2Proof.Machine
end

