-- ==== Sys2Proof/Machine/Management.lean ====
section
/-! DEFINITION. Machine/Management.lean: the Management Link Controller and Attention Unit: the attention commands, status
and call reads, RESTART, and the link's own events (chapter 10, R200). -/

namespace Sys2Proof.Machine

/-! ## Attention -/

/-- Every status and every enable, as the attention commands return them (R189, R190). -/
def Part.attentionReply (p : Part) : Results := .attention p.statuses p.main.enables

/-- ATTN_ACK (R189). -/
def takeAttnAck (set : Half) (p : Part) : Taken := done (p.clearSticky set) (p.clearSticky set).attentionReply

/-- ATTN_ACK (R189). -/
def execAttnAck (tag : Byte) (body : Body Half) (s : State) : Host.Outcome State Fault Refusal :=
  command 0x2F tag body takeAttnAck s

/-- The part with all sixteen enables replaced. -/
def Part.withEnables (p : Part) (set : Half) : Part := { p with main := { p.main with enables := set } }

/-- ATTN_ENABLE (R190). -/
def takeAttnEnable (set : Half) (p : Part) : Taken := done (p.withEnables set) (p.withEnables set).attentionReply

/-- ATTN_ENABLE (R190). -/
def execAttnEnable (tag : Byte) (body : Body Half) (s : State) : Host.Outcome State Fault Refusal :=
  command 0x30 tag body takeAttnEnable s

/-- ATTN_READ (R190). -/
def execAttnRead (tag : Byte) (body : Body Unit) (s : State) : Host.Outcome State Fault Refusal :=
  command 0x31 tag body (readOnly Part.attentionReply) s

/-! ## Status and call reads -/

/-- What STATUS_READ returns, taken in one step (R193). -/
def Part.statusView (p : Part) : StatusView where
  now := p.main.now
  credentials := p.ret.creds.length
  tenants := p.ret.tenants.length
  tickets := p.main.tickets.length
  calls := p.main.calls.length
  drops := (List.range Config.drops).map fun i => (p.drop i).state
  link := p.main.link
  inService := p.main.inService
  modes := eight.map p.mode
  purge := if p.ret.purge.running then some (p.ret.purge.tenant, p.ret.purge.position) else none
  sweep := if p.ret.sweep.running then some (p.ret.sweep.day, p.ret.sweep.position, p.ret.sweep.count) else none
  lastSweep := p.ret.sweep.lastCount

/-- STATUS_READ (R193). -/
def execStatusRead (tag : Byte) (body : Body Unit) (s : State) : Host.Outcome State Fault Refusal :=
  command 0x32 tag body (readOnly fun p => .status p.statusView) s

/-- The reply for a call in flight, with the state of its linked ticket (R194). -/
def Part.callReply (p : Part) (slot : Nat) (c : Call) : Results :=
  .call slot c ((p.linkedTicket ⟨c.number, slot⟩).map Ticket.state) p.main.now

/-- CALL_READ in its two forms (R194). -/
def takeCallRead (q : CallQuery) (p : Part) : Taken :=
  match q with
  | .bySlot n =>
    if Config.callSlots ≤ n.toNat then refuse p .badValue
    else
      match Table.lookup p.main.calls n.toNat with
      | none => done p .slotFree
      | some c => done p (p.callReply n.toNat c)
  | .byNumber n =>
    if n = 0 then refuse p .badValue
    else
      match p.callNumbered n with
      | none => refuse p .notFound
      | some (slot, c) => done p (p.callReply slot c)

/-- CALL_READ (R194). -/
def execCallRead (tag : Byte) (body : Body CallQuery) (s : State) : Host.Outcome State Fault Refusal :=
  command 0x33 tag body takeCallRead s

/-! ## RESTART and the link's own events -/

/-- The kind of RESTART (R207). -/
abbrev restartKind : Byte := 0x34

/-- RESTART: answered DONE; the main stop follows when the reply has been sent (R200). -/
def execRestart (tag : Byte) (body : Body Unit) (s : State) : Host.Outcome State Fault Refusal :=
  command restartKind tag body (fun _ p => done p .nothing) s

/-- A frame whose kind names no command, by the link's state: discarded, counted, or answered NOT_READY (R185, R186). -/
def Part.takeUnknown (p : Part) (kind tag : Byte) : Part :=
  let q := p.hunt .management
  match q.main.mgmt with
  | .closed => q
  | .replying _ => q.overrunBy tag
  | .ready => q.reply ⟨kind, tag, .notReady, .nothing⟩

/-- UNKNOWN_COMMAND (R186); a kind that names a command is not this event (log 6). -/
def execUnknownCommand (kind tag : Byte) (s : State) : Host.Outcome State Fault Refusal :=
  if namesCommand kind then .next s else whileRunning s fun p => p.takeUnknown kind tag

/-- A well-checked command frame arrives during a reply: discarded and counted (R185; log 6). -/
def Part.duringReply (p : Part) (tag : Byte) : Part :=
  let q := p.hunt .management
  match q.main.mgmt with
  | .closed => q
  | .ready => q
  | .replying _ => q.overrunBy tag

/-- COMMAND_DURING_REPLY (R185). -/
def execCommandDuringReply (tag : Byte) (s : State) : Host.Outcome State Fault Refusal :=
  whileRunning s fun p => p.duringReply tag

/-- MANAGEMENT_FRAME_DISCARDED: the frame ends, with no reply and counted nowhere (R184, R186, R208). -/
def execManagementFrameDiscarded (s : State) : Host.Outcome State Fault Refusal :=
  whileRunning s fun p => p.hunt .management

/-- The OVERRUN reply formed from a record (R185, R207). -/
def overrunReply (o : Overrun) : Reply := ⟨0, o.first, .overrun, .overrun o.last (byte o.count)⟩

/-- A reply has been sent: READY, or the OVERRUN reply begins and the record becomes empty (R184, R185). -/
def Part.nextReply (p : Part) : Part :=
  match p.main.overrun with
  | none => p.withMgmt .ready
  | some o => { p with main := { p.main with mgmt := .replying (overrunReply o), overrun := none } }

/-- The reply is RESTART's DONE (R200). -/
def restartDone (r : Reply) : Bool := decide (r.kind = restartKind) && decide (r.status = .done)

/-- REPLY_SENT (R184); after RESTART's DONE the main stop is taken in this step (R200). -/
def execReplySent (s : State) : Host.Outcome State Fault Refusal :=
  match s.well with
  | .off => .next s
  | .qualifying => .next s
  | .running m =>
    match m.mgmt with
    | .closed => .next s
    | .ready => .next s
    | .replying r =>
      if restartDone r then .next s.restartStop else .next (s.withPart (Part.nextReply ⟨s.ret, m⟩))

end Sys2Proof.Machine
end

