-- ==== Sys2Proof/Machine/Map.lean ====
section
/-! DEFINITION. Machine/Map.lean: the Building Map's commands (chapter 4). -/

namespace Sys2Proof.Machine

/-! ## Landings -/

/-- Some landing of a range is SKY and named by a transfer entry, or carries a drop of kind SKY (R71, check 2). -/
def Part.skyInUse (p : Part) (low high : Byte) : Bool :=
  (p.ret.transfers.any fun e => decide (low ≤ e.2.landing) && decide (e.2.landing ≤ high) &&
      decide (p.kindOf e.2.landing = .sky)) ||
  (p.ret.drops.any fun e => decide (e.2.kind = .sky) && decide (low ≤ e.2.landing) && decide (e.2.landing ≤ high) &&
      decide (p.kindOf e.2.landing = .sky))

/-- Every landing from low to high set to a kind (R71). -/
def setLandings (t : Table LandingKind) (low high : Nat) (kind : LandingKind) : Table LandingKind :=
  (List.range' low (high + 1 - low)).foldl (fun acc n => Table.set .closed acc n kind) t

/-- LANDING_SET (R71). -/
def takeLandingSet (f : LandingFields) (p : Part) : Taken :=
  if !landingOk f.low || !landingOk f.high || decide (f.high < f.low) then refuse p .badValue
  else
    match LandingKind.ofCode f.kind with
    | none => refuse p .badValue
    | some kind =>
      if decide (kind ≠ .sky) && p.skyInUse f.low f.high then refuse p .wrongState
      else
        done { p with ret := { p.ret with landings := setLandings p.ret.landings f.low.toNat f.high.toNat kind } } .nothing

/-- LANDING_SET (R71). -/
def execLandingSet (tag : Byte) (body : Body LandingFields) (s : State) : Host.Outcome State Fault Refusal :=
  command 0x1D tag body takeLandingSet s

/-- LANDING_READ: every landing from 0 to 127 in order (R83). -/
def execLandingRead (tag : Byte) (body : Body Unit) (s : State) : Host.Outcome State Fault Refusal :=
  command 0x1E tag body
    (readOnly fun p => .landings ((List.range (Config.lastLanding + 1)).map fun n => p.kindOf (byte n))) s

/-! ## Groups -/

/-- A transfer entry names a group and a landing the given ranges do not hold (R73, check 3). -/
def Part.transferNeeds (p : Part) (group : Byte) (ranges : List LandingRange) : Bool :=
  p.ret.transfers.any fun e => (decide (e.2.first = group) || decide (e.2.second = group)) && !inRanges ranges e.2.landing

/-- A configured drop has a group in its set and stands at a landing the given ranges do not hold (R73, check 4). -/
def Part.dropNeeds (p : Part) (group : Byte) (ranges : List LandingRange) : Bool :=
  p.ret.drops.any fun e => inSet e.2.groups group.toNat && !inRanges ranges e.2.landing

/-- GROUP_SET sends a notice for a group it configures, and for a group in RECALL whose recall landing it changes (R75). -/
def Part.groupSetNotifies (p : Part) (f : GroupFields) : Bool :=
  match Table.lookup p.ret.groups f.group.toNat with
  | none => true
  | some old => decide (p.mode f.group.toNat = .recalled) && decide (old.recallLanding ≠ f.recallLanding)

/-- The part with a group configured (R73). -/
def Part.putGroup (p : Part) (g : Byte) (e : GroupEntry) : Part :=
  { p with ret := { p.ret with groups := Table.put p.ret.groups g.toNat e } }

/-- GROUP_SET (R73, R75). -/
def takeGroupSet (f : GroupFields) (p : Part) : Taken :=
  if !groupOk f.group || !rangesOk f.ranges || !landingOk f.recallLanding then refuse p .badValue
  else if !inRanges f.ranges f.recallLanding then refuse p .badValue
  else if p.transferNeeds f.group f.ranges then refuse p .wrongState
  else if p.dropNeeds f.group f.ranges then refuse p .wrongState
  else
    let q := p.putGroup f.group ⟨f.ranges, f.recallLanding⟩
    done (if p.groupSetNotifies f then q.notice f.group.toNat else q) .nothing

/-- GROUP_SET (R73). -/
def execGroupSet (tag : Byte) (body : Body GroupFields) (s : State) : Host.Outcome State Fault Refusal :=
  command 0x1F tag body takeGroupSet s

/-- A transfer entry or a configured drop's group set names a group (R74). -/
def Part.groupNamed (p : Part) (g : Byte) : Bool :=
  (p.ret.transfers.any fun e => decide (e.2.first = g) || decide (e.2.second = g)) ||
  (p.ret.drops.any fun e => inSet e.2.groups g.toNat)

/-- GROUP_CLEAR (R74). -/
def takeGroupClear (g : Byte) (p : Part) : Taken :=
  if !groupOk g then refuse p .badValue
  else if p.groupNamed g then refuse p .wrongState
  else done { p with ret := { p.ret with groups := Table.erase p.ret.groups g.toNat } } .nothing

/-- GROUP_CLEAR (R74). -/
def execGroupClear (tag : Byte) (body : Body Byte) (s : State) : Host.Outcome State Fault Refusal :=
  command 0x20 tag body takeGroupClear s

/-- GROUP_READ (R83). -/
def takeGroupRead (g : Byte) (p : Part) : Taken :=
  if !groupOk g then refuse p .badValue else done p (.group (Table.lookup p.ret.groups g.toNat))

/-- GROUP_READ (R83). -/
def execGroupRead (tag : Byte) (body : Body Byte) (s : State) : Host.Outcome State Fault Refusal :=
  command 0x21 tag body takeGroupRead s

/-! ## The transfer table -/

/-- TRANSFER_SET (R77). An unconfigured group serves no landing. -/
def takeTransferSet (f : TransferFields) (p : Part) : Taken :=
  if decide (Config.transfers ≤ f.position.toNat) || !groupOk f.first || !groupOk f.second || !landingOk f.landing then
    refuse p .badValue
  else if f.first = f.second then refuse p .badValue
  else if p.kindOf f.landing ≠ .sky then refuse p .badValue
  else if !p.serves f.first f.landing || !p.serves f.second f.landing then refuse p .badValue
  else
    done { p with ret := { p.ret with
      transfers := Table.put p.ret.transfers f.position.toNat ⟨f.first, f.landing, f.second⟩ } } .nothing

/-- TRANSFER_SET (R77). -/
def execTransferSet (tag : Byte) (body : Body TransferFields) (s : State) : Host.Outcome State Fault Refusal :=
  command 0x22 tag body takeTransferSet s

/-- TRANSFER_CLEAR (R78). -/
def takeTransferClear (n : Byte) (p : Part) : Taken :=
  if Config.transfers ≤ n.toNat then refuse p .badValue
  else done { p with ret := { p.ret with transfers := Table.erase p.ret.transfers n.toNat } } .nothing

/-- TRANSFER_CLEAR (R78). -/
def execTransferClear (tag : Byte) (body : Body Byte) (s : State) : Host.Outcome State Fault Refusal :=
  command 0x23 tag body takeTransferClear s

/-- TRANSFER_READ: all 16 positions in order (R83). -/
def execTransferRead (tag : Byte) (body : Body Unit) (s : State) : Host.Outcome State Fault Refusal :=
  command 0x24 tag body
    (readOnly fun p => .transfers ((List.range Config.transfers).map fun n => Table.lookup p.ret.transfers n)) s

/-! ## Drops -/

/-- Every group of a set is configured and serves a landing (R80, check 2). -/
def Part.allServe (p : Part) (groups : Set8) (landing : Byte) : Bool :=
  eight.all fun g => !inSet groups g || p.serves (byte g) landing

/-- The part with a drop's configuration written or removed, the drop reset and its link polling (R80 to R82, R151). -/
def Part.configureDrop (p : Part) (i : Nat) (c : Option DropConfig) : Part :=
  let q : Part := { p with ret := { p.ret with drops := Table.assign p.ret.drops i c } }
  (q.resetDrop i c.isSome).sendPoll (i / Config.addresses)

/-- PANEL_SET in its two forms (R80, R81). -/
def takePanelSet (f : PanelFields) (p : Part) : Taken :=
  match f with
  | .configure d kindCode landing groups =>
    match DropKind.ofCode kindCode with
    | none => refuse p .badValue
    | some kind =>
      if !dropOk d || !landingOk landing || decide (groups = 0) then refuse p .badValue
      else if !p.allServe groups landing then refuse p .badValue
      else if kind = .sky ∧ p.kindOf landing ≠ .sky then refuse p .badValue
      else if p.dropInCall d.toNat then refuse p .wrongState
      else done (p.configureDrop d.toNat (some ⟨kind, landing, groups⟩)) .nothing
  | .unconfigure d =>
    if !dropOk d then refuse p .badValue
    else if p.dropInCall d.toNat then refuse p .wrongState
    else done (p.configureDrop d.toNat none) .nothing

/-- PANEL_SET (R80). -/
def execPanelSet (tag : Byte) (body : Body PanelFields) (s : State) : Host.Outcome State Fault Refusal :=
  command 0x25 tag body takePanelSet s

/-- PANEL_READ (R83). -/
def takePanelRead (d : Byte) (p : Part) : Taken :=
  if !dropOk d then refuse p .badValue
  else
    done p (.panel (Table.lookup p.ret.drops d.toNat) (p.drop d.toNat).state (p.dropInCall d.toNat))

/-- PANEL_READ (R83). -/
def execPanelRead (tag : Byte) (body : Body Byte) (s : State) : Host.Outcome State Fault Refusal :=
  command 0x26 tag body takePanelRead s

end Sys2Proof.Machine
end

