-- ==== Sys2Proof/Machine/Tenants.lean ====
section
/-! DEFINITION. Machine/Tenants.lean: the Tenant Store's commands, the overlay slots and the purge walker (chapter 2). -/

namespace Sys2Proof.Machine

/-- The part with a tenant's record written. -/
def Part.putTenant (p : Part) (t : Byte) (r : Tenant) : Part := p.withTenants (Table.put p.ret.tenants t.toNat r)

/-- TENANT_CREATE (R31). -/
def takeTenantCreate (f : TenantFields) (p : Part) : Taken :=
  if f.tenant = 0 then refuse p .badValue
  else if !grantListOk f.grants then refuse p .badValue
  else if (p.tenant f.tenant).isSome then refuse p .exists
  else done (p.putTenant f.tenant ⟨.live, f.grants, 0⟩) .nothing

/-- TENANT_CREATE (R31). -/
def execTenantCreate (tag : Byte) (body : Body TenantFields) (s : State) : Host.Outcome State Fault Refusal :=
  command 0x09 tag body takeTenantCreate s

/-- A command on a present tenant: BAD_VALUE for tenant 0, NOT_FOUND for a FREE entry (R32, R34 to R37). -/
def onTenant (t : Byte) (p : Part) (act : Tenant → Taken) : Taken :=
  if t = 0 then refuse p .badValue
  else
    match p.tenant t with
    | none => refuse p .notFound
    | some r => act r

/-- TENANT_FLOORS (R32). -/
def takeTenantFloors (f : TenantFields) (p : Part) : Taken :=
  onTenant f.tenant p fun r =>
    if !grantListOk f.grants then refuse p .badValue
    else if r.state = .purging then refuse p .purging
    else if (p.overlayOf f.tenant).isSome then refuse p .inOverlay
    else done (p.putTenant f.tenant { r with grants := f.grants }) .nothing

/-- TENANT_FLOORS (R32). -/
def execTenantFloors (tag : Byte) (body : Body TenantFields) (s : State) : Host.Outcome State Fault Refusal :=
  command 0x0A tag body takeTenantFloors s

/-- TENANT_SUSPEND (R33, R34). -/
def takeTenantSuspend (t : Byte) (p : Part) : Taken :=
  onTenant t p fun r =>
    if r.state = .purging then refuse p .wrongState
    else done ((p.putTenant t { r with state := .suspended }).removeTenantTickets t) .nothing

/-- TENANT_SUSPEND (R34). -/
def execTenantSuspend (tag : Byte) (body : Body Byte) (s : State) : Host.Outcome State Fault Refusal :=
  command 0x0B tag body takeTenantSuspend s

/-- TENANT_REINSTATE (R35). -/
def takeTenantReinstate (t : Byte) (p : Part) : Taken :=
  onTenant t p fun r =>
    if r.state = .suspended then done (p.putTenant t { r with state := .live }) .nothing
    else refuse p .wrongState

/-- TENANT_REINSTATE (R35). -/
def execTenantReinstate (tag : Byte) (body : Body Byte) (s : State) : Host.Outcome State Fault Refusal :=
  command 0x0C tag body takeTenantReinstate s

/-- The purge walker set. -/
def Part.withPurge (p : Part) (w : PurgeWalker) : Part := { p with ret := { p.ret with purge := w } }

/-- TENANT_PURGE (R37). -/
def takeTenantPurge (t : Byte) (p : Part) : Taken :=
  onTenant t p fun r =>
    if p.ret.purge.running then refuse p .busy
    else if r.state ≠ .suspended then refuse p .wrongState
    else if (p.overlayOf t).isSome then refuse p .inOverlay
    else done ((p.putTenant t { r with state := .purging }).withPurge ⟨true, t, 0⟩) .nothing

/-- TENANT_PURGE (R37). -/
def execTenantPurge (tag : Byte) (body : Body Byte) (s : State) : Host.Outcome State Fault Refusal :=
  command 0x0D tag body takeTenantPurge s

/-- TENANT_READ (R36): the purge walker's position is carried for a PURGING tenant. -/
def takeTenantRead (t : Byte) (p : Part) : Taken :=
  onTenant t p fun r =>
    done p (.tenant r (p.overlayOf t) (if r.state = .purging then some p.ret.purge.position else none))

/-- TENANT_READ (R36). -/
def execTenantRead (tag : Byte) (body : Body Byte) (s : State) : Host.Outcome State Fault Refusal :=
  command 0x0E tag body takeTenantRead s

/-! ## Overlay slots (R41) -/

/-- The slot in use with a number; none when it is FREE. -/
def Part.overlay (p : Part) (slot : Byte) : Option Overlay := Table.lookup p.main.overlays slot.toNat

/-- A slot put to use or rewritten. -/
def Part.putOverlay (p : Part) (slot : Byte) (o : Overlay) : Part :=
  p.withOverlays (Table.put p.main.overlays slot.toNat o)

/-- A slot made FREE. -/
def Part.freeOverlay (p : Part) (slot : Byte) : Part := p.withOverlays (Table.erase p.main.overlays slot.toNat)

/-- OVERLAY_OPEN (R43). -/
def takeOverlayOpen (f : OverlayOpenFields) (p : Part) : Taken :=
  if !slotOk f.slot || decide (f.tenant = 0) then refuse p .badValue
  else if (p.overlay f.slot).isSome then refuse p .wrongState
  else
    match p.tenant f.tenant with
    | none => refuse p .notFound
    | some r =>
      if r.state = .purging then refuse p .purging
      else if (p.overlayOf f.tenant).isSome then refuse p .inOverlay
      else done (p.putOverlay f.slot ⟨f.tenant, r.grants, none⟩) .nothing

/-- OVERLAY_OPEN (R43). -/
def execOverlayOpen (tag : Byte) (body : Body OverlayOpenFields) (s : State) : Host.Outcome State Fault Refusal :=
  command 0x0F tag body takeOverlayOpen s

/-- A command on a slot in use, after the command's own check of its operands: WRONG_STATE for a FREE slot (R44 to R47). -/
def onOverlay (slot : Byte) (operandsOk : Bool) (p : Part) (act : Overlay → Taken) : Taken :=
  if !slotOk slot || !operandsOk then refuse p .badValue
  else
    match p.overlay slot with
    | none => refuse p .wrongState
    | some o => act o

/-- OVERLAY_EDIT (R44). -/
def takeOverlayEdit (f : OverlayEditFields) (p : Part) : Taken :=
  onOverlay f.slot (grantListOk f.grants) p fun o =>
    done (p.putOverlay f.slot { o with grants := f.grants }) .nothing

/-- OVERLAY_EDIT (R44). -/
def execOverlayEdit (tag : Byte) (body : Body OverlayEditFields) (s : State) : Host.Outcome State Fault Refusal :=
  command 0x10 tag body takeOverlayEdit s

/-- OVERLAY_APPLY (R45). -/
def takeOverlayApply (f : OverlayApplyFields) (p : Part) : Taken :=
  onOverlay f.slot (Scope.ofCode f.scope).isSome p fun o =>
    done (p.putOverlay f.slot { o with scope := Scope.ofCode f.scope }) .nothing

/-- OVERLAY_APPLY (R45). -/
def execOverlayApply (tag : Byte) (body : Body OverlayApplyFields) (s : State) : Host.Outcome State Fault Refusal :=
  command 0x11 tag body takeOverlayApply s

/-- OVERLAY_COMMIT (R46). -/
def takeOverlayCommit (slot : Byte) (p : Part) : Taken :=
  onOverlay slot true p fun o =>
    done ((p.modTenant o.tenant fun r => { r with grants := o.grants }).freeOverlay slot) .nothing

/-- OVERLAY_COMMIT (R46). -/
def execOverlayCommit (tag : Byte) (body : Body Byte) (s : State) : Host.Outcome State Fault Refusal :=
  command 0x12 tag body takeOverlayCommit s

/-- OVERLAY_DISCARD (R47). -/
def takeOverlayDiscard (slot : Byte) (p : Part) : Taken :=
  onOverlay slot true p fun _ => done (p.freeOverlay slot) .nothing

/-- OVERLAY_DISCARD (R47). -/
def execOverlayDiscard (tag : Byte) (body : Body Byte) (s : State) : Host.Outcome State Fault Refusal :=
  command 0x13 tag body takeOverlayDiscard s

/-- OVERLAY_READ (R49). -/
def takeOverlayRead (slot : Byte) (p : Part) : Taken :=
  if !slotOk slot then refuse p .badValue else done p (.overlay (p.overlay slot))

/-- OVERLAY_READ (R49). -/
def execOverlayRead (tag : Byte) (body : Body Byte) (s : State) : Host.Outcome State Fault Refusal :=
  command 0x14 tag body takeOverlayRead s

/-! ## The purge walker (R38, R39) -/

/-- The end step of a purge walk (R39). -/
def Part.endPurge (p : Part) : Part :=
  ((p.withTenants (Table.erase p.ret.tenants p.ret.purge.tenant.toNat)).withPurge
    ⟨false, p.ret.purge.tenant, 0⟩).raisePurgeDone

/-- The purged tenant's credential count (R38, step 1). -/
def Part.purgeCount (p : Part) : Nat :=
  match p.tenant p.ret.purge.tenant with
  | some r => r.count
  | none => 0

/-- A record is visited and retired when it names the purged tenant; the position moves to it (R16, R38). -/
def Part.purgeRecord (p : Part) (k : Nat) (c : Cred) : Part :=
  let q := if c.tenant = p.ret.purge.tenant then p.retire (BitVec.ofNat 40 k) else p
  q.withPurge { p.ret.purge with position := k }

/-- One visit of the purge walker (R38). An IDLE walker makes none. -/
def Part.purgeVisit (p : Part) : Part :=
  if !p.ret.purge.running then p
  else if p.purgeCount = 0 then p.endPurge
  else
    match Table.next p.ret.creds p.ret.purge.position with
    | none => p.endPurge
    | some (k, c) => p.purgeRecord k c

/-- PURGE_VISIT (R38). -/
def execPurgeVisit (s : State) : Host.Outcome State Fault Refusal := whileRunning s Part.purgeVisit

end Sys2Proof.Machine
end

