-- ==== Sys2Proof/Machine/Tickets.lean ====
section
/-! DEFINITION. Machine/Tickets.lean: the expiry of tickets and TICKET_READ (chapter 7). -/

namespace Sys2Proof.Machine

/-- A ticket is ISSUED and its expiry is reached (R143). -/
def expired (now : Nat) (t : Ticket) : Bool :=
  match t.state with
  | .issued e => decide (e ≤ now)
  | .pending _ => false
  | .claimed _ _ => false

/-- The expired ISSUED ticket of a badge leaves the pool (R143). -/
def Part.expireTicket (p : Part) (b : Badge) : Part :=
  p.removeTickets fun t => decide (t.badge = b) && expired p.main.now t

/-- TICKET_EXPIRY (R143; log 27). -/
def execTicketExpiry (badge : Badge) (s : State) : Host.Outcome State Fault Refusal :=
  whileRunning s fun p => p.expireTicket badge

/-- The tickets with their places in the creation order, 0 for the oldest (R195). -/
def Part.ticketViews (p : Part) : List TicketView := p.main.tickets.zipIdx.map fun e => ⟨e.2, e.1⟩

/-- The reply of TICKET_READ (R195). -/
def Part.ticketReply (p : Part) (list : List TicketView) : Results := .tickets p.main.now p.main.tickets.length list

/-- TICKET_READ in its two forms (R148). -/
def takeTicketRead (q : TicketQuery) (p : Part) : Taken :=
  match q with
  | .byBadge b =>
    if !badgeKey b then refuse p .badValue
    else
      let found := p.ticketViews.filter fun v => decide (v.ticket.badge = b)
      if found.isEmpty then refuse p .notFound else done p (p.ticketReply found)
  | .byOrdinal n =>
    if Config.tickets ≤ n.toNat then refuse p .badValue
    else
      let found := p.ticketViews.filter fun v => decide (v.ordinal = n.toNat)
      if found.isEmpty then refuse p .notFound else done p (p.ticketReply found)

/-- TICKET_READ (R148). -/
def execTicketRead (tag : Byte) (body : Body TicketQuery) (s : State) : Host.Outcome State Fault Refusal :=
  command 0x27 tag body takeTicketRead s

end Sys2Proof.Machine
end

