-- ==== Sys2Proof/Machine/Dispatch.lean ====
section
/-! DEFINITION. Machine/Dispatch.lean: one arm for each command, in the order of the opcode table. -/

namespace Sys2Proof.Machine

def exec (i : Instr) (s : State) : Host.Outcome State Fault Refusal :=
  match i with
  | .credEnrol tag body => Sys2Proof.Machine.execCredEnrol tag body s
  | .credAmend tag body => Sys2Proof.Machine.execCredAmend tag body s
  | .credSuspend tag body => Sys2Proof.Machine.execCredSuspend tag body s
  | .credReinstate tag body => Sys2Proof.Machine.execCredReinstate tag body s
  | .credRetire tag body => Sys2Proof.Machine.execCredRetire tag body s
  | .quotaReload tag body => Sys2Proof.Machine.execQuotaReload tag body s
  | .credRead tag body => Sys2Proof.Machine.execCredRead tag body s
  | .credNext tag body => Sys2Proof.Machine.execCredNext tag body s
  | .tenantCreate tag body => Sys2Proof.Machine.execTenantCreate tag body s
  | .tenantFloors tag body => Sys2Proof.Machine.execTenantFloors tag body s
  | .tenantSuspend tag body => Sys2Proof.Machine.execTenantSuspend tag body s
  | .tenantReinstate tag body => Sys2Proof.Machine.execTenantReinstate tag body s
  | .tenantPurge tag body => Sys2Proof.Machine.execTenantPurge tag body s
  | .tenantRead tag body => Sys2Proof.Machine.execTenantRead tag body s
  | .overlayOpen tag body => Sys2Proof.Machine.execOverlayOpen tag body s
  | .overlayEdit tag body => Sys2Proof.Machine.execOverlayEdit tag body s
  | .overlayApply tag body => Sys2Proof.Machine.execOverlayApply tag body s
  | .overlayCommit tag body => Sys2Proof.Machine.execOverlayCommit tag body s
  | .overlayDiscard tag body => Sys2Proof.Machine.execOverlayDiscard tag body s
  | .overlayRead tag body => Sys2Proof.Machine.execOverlayRead tag body s
  | .calSet tag body => Sys2Proof.Machine.execCalSet tag body s
  | .calRead tag body => Sys2Proof.Machine.execCalRead tag body s
  | .holidaySet tag body => Sys2Proof.Machine.execHolidaySet tag body s
  | .holidayRead tag body => Sys2Proof.Machine.execHolidayRead tag body s
  | .schedSet tag body => Sys2Proof.Machine.execSchedSet tag body s
  | .schedRead tag body => Sys2Proof.Machine.execSchedRead tag body s
  | .paramSet tag body => Sys2Proof.Machine.execParamSet tag body s
  | .paramRead tag body => Sys2Proof.Machine.execParamRead tag body s
  | .landingSet tag body => Sys2Proof.Machine.execLandingSet tag body s
  | .landingRead tag body => Sys2Proof.Machine.execLandingRead tag body s
  | .groupSet tag body => Sys2Proof.Machine.execGroupSet tag body s
  | .groupClear tag body => Sys2Proof.Machine.execGroupClear tag body s
  | .groupRead tag body => Sys2Proof.Machine.execGroupRead tag body s
  | .transferSet tag body => Sys2Proof.Machine.execTransferSet tag body s
  | .transferClear tag body => Sys2Proof.Machine.execTransferClear tag body s
  | .transferRead tag body => Sys2Proof.Machine.execTransferRead tag body s
  | .panelSet tag body => Sys2Proof.Machine.execPanelSet tag body s
  | .panelRead tag body => Sys2Proof.Machine.execPanelRead tag body s
  | .ticketRead tag body => Sys2Proof.Machine.execTicketRead tag body s
  | .dropRead tag body => Sys2Proof.Machine.execDropRead tag body s
  | .alarmSet tag body => Sys2Proof.Machine.execAlarmSet tag body s
  | .alarmAck tag body => Sys2Proof.Machine.execAlarmAck tag body s
  | .alarmRead tag body => Sys2Proof.Machine.execAlarmRead tag body s
  | .modeDemand tag body => Sys2Proof.Machine.execModeDemand tag body s
  | .groupResume tag body => Sys2Proof.Machine.execGroupResume tag body s
  | .modeRead tag body => Sys2Proof.Machine.execModeRead tag body s
  | .attnAck tag body => Sys2Proof.Machine.execAttnAck tag body s
  | .attnEnable tag body => Sys2Proof.Machine.execAttnEnable tag body s
  | .attnRead tag body => Sys2Proof.Machine.execAttnRead tag body s
  | .statusRead tag body => Sys2Proof.Machine.execStatusRead tag body s
  | .callRead tag body => Sys2Proof.Machine.execCallRead tag body s
  | .restart tag body => Sys2Proof.Machine.execRestart tag body s
  | .unknownCommand kind tag => Sys2Proof.Machine.execUnknownCommand kind tag s
  | .commandDuringReply tag => Sys2Proof.Machine.execCommandDuringReply tag s
  | .managementFrameDiscarded => Sys2Proof.Machine.execManagementFrameDiscarded s
  | .replySent => Sys2Proof.Machine.execReplySent s
  | .decision => Sys2Proof.Machine.execDecision s
  | .callAssigned number car => Sys2Proof.Machine.execCallAssigned number car s
  | .callDeclined number code => Sys2Proof.Machine.execCallDeclined number code s
  | .callTimerExpiry number => Sys2Proof.Machine.execCallTimerExpiry number s
  | .dispatchAlive groups => Sys2Proof.Machine.execDispatchAlive groups s
  | .livenessTimerExpiry => Sys2Proof.Machine.execLivenessTimerExpiry s
  | .dispatcherFrameSent => Sys2Proof.Machine.execDispatcherFrameSent s
  | .dispatcherFrameDiscarded => Sys2Proof.Machine.execDispatcherFrameDiscarded s
  | .ticketExpiry badge => Sys2Proof.Machine.execTicketExpiry badge s
  | .validReply link address request => Sys2Proof.Machine.execValidReply link address request s
  | .invalidReply link => Sys2Proof.Machine.execInvalidReply link s
  | .replyWindowEnd link => Sys2Proof.Machine.execReplyWindowEnd link s
  | .unsolicitedPanelFrame link => Sys2Proof.Machine.execUnsolicitedPanelFrame link s
  | .frameGapTimeout wire => Sys2Proof.Machine.execFrameGapTimeout wire s
  | .repeatMemoryEnd drop => Sys2Proof.Machine.execRepeatMemoryEnd drop s
  | .escortWindowEnd drop => Sys2Proof.Machine.execEscortWindowEnd drop s
  | .rawLevelChange line high => Sys2Proof.Machine.execRawLevelChange line high s
  | .debounceEnd line => Sys2Proof.Machine.execDebounceEnd line s
  | .purgeVisit => Sys2Proof.Machine.execPurgeVisit s
  | .sweepVisit => Sys2Proof.Machine.execSweepVisit s
  | .secondAdvance => Sys2Proof.Machine.execSecondAdvance s
  | .minuteAdvance => Sys2Proof.Machine.execMinuteAdvance s
  | .dayRollover => Sys2Proof.Machine.execDayRollover s
  | .startConditionBegins => Sys2Proof.Machine.execStartConditionBegins s
  | .startConditionCeases mainOk resetReleased => Sys2Proof.Machine.execStartConditionCeases mainOk resetReleased s
  | .startSequence levels => Sys2Proof.Machine.execStartSequence levels s
  | .retentionPowerGain => Sys2Proof.Machine.execRetentionPowerGain s
  | .retentionSupplyLoss => Sys2Proof.Machine.execRetentionSupplyLoss s
  | .pollSent link => Sys2Proof.Machine.execPollSent link s
  | .frameStart wire => Sys2Proof.Machine.execFrameStart wire s

end Sys2Proof.Machine
end

