-- ==== Sys2Proof/Machine/Frames.lean ====
section
/-! DEFINITION. Machine/Frames.lean: the bytes of the frames the part sends: polls, dispatcher frames and replies
(R203 to R207; the layouts of results: log 18, log 19). -/

namespace Sys2Proof.Machine

/-! ## Quantities (R204) -/

/-- Four bytes, most significant first: the low 32 bits of a service time. -/
def bytes32 (n : Nat) : List Byte :=
  let w := BitVec.ofNat 32 n
  [w.extractLsb' 24 8, w.extractLsb' 16 8, w.extractLsb' 8 8, w.extractLsb' 0 8]

/-- Five bytes of a badge number, most significant first. -/
def bytes40 (b : Badge) : List Byte :=
  [b.extractLsb' 32 8, b.extractLsb' 24 8, b.extractLsb' 16 8, b.extractLsb' 8 8, b.extractLsb' 0 8]

/-- A walker position, which is a badge number (R193). -/
def positionBytes (n : Nat) : List Byte := bytes40 (BitVec.ofNat 40 n)

/-- A count that can exceed 255. -/
def countBytes (n : Nat) : List Byte := bytes16 (BitVec.ofNat 16 n)

/-- Set or clear, on or off, present or absent. -/
def flagByte (b : Bool) : Byte := if b then 1 else 0

/-- An optional landing or car: FFh when absent. -/
def optByte (o : Option Byte) : Byte := o.getD 0xFF#8

/-- A list: its count, then its entries. -/
def listBytes {α : Type} (entry : α → List Byte) (l : List α) : List Byte := byte l.length :: l.flatMap entry

/-- A grant. -/
def grantBytes (g : Grant) : List Byte := [g.low, g.high, g.schedule]

/-- A window. -/
def windowBytes (w : Window) : List Byte := w.days :: (bytes16 w.start ++ bytes16 w.stop)

/-- A served range. -/
def rangeBytes (r : LandingRange) : List Byte := [r.low, r.high]

/-! ## Codes -/

/-- The codes of a credential's state (R207). -/
def CredState.code : CredState → Byte
  | .active => 0
  | .suspended => 1
  | .exhausted => 2

/-- The codes of the classes (R207). -/
def CredClass.code : CredClass → Byte
  | .staff => 0
  | .visitor => 1
  | .service => 2
  | .security => 3

/-- The codes of a tenant's state, in R28's order (R204). -/
def TenantState.code : TenantState → Byte
  | .live => 0
  | .suspended => 1
  | .purging => 2

/-- The codes of a slot's state, FREE, OPEN, APPLIED, in R41's order (R204). -/
def overlayCode : Option Overlay → Byte
  | none => 0
  | some o => if o.scope.isSome then 2 else 1

/-- The codes of the scopes, in R41's order (R204). -/
def Scope.code : Scope → Byte
  | .all => 0
  | .trial => 1

/-- The codes of the landing kinds, in R70's order (R204). -/
def LandingKind.code : LandingKind → Byte
  | .publicLanding => 0
  | .sky => 1
  | .tenant => 2
  | .secure => 3
  | .plant => 4
  | .closed => 5

/-- The codes of the drop kinds, in R79's order (R204). -/
def DropKind.code : DropKind → Byte
  | .lobby => 0
  | .sky => 1

/-- The codes of the modes (R204, R206). -/
def Mode.code : Mode → Byte
  | .normal => 0
  | .opened => 1
  | .lockdown => 2
  | .recalled => 3

/-- The codes of a drop's live state, in R154's order (R204). -/
def DropState.code : DropState → Byte
  | .unconfigured => 0
  | .down => 1
  | .qualifying => 2
  | .up => 3

/-- The codes of the dispatcher link's state, in R129's order (R204). -/
def LinkState.code : LinkState → Byte
  | .down => 0
  | .qualifying => 1
  | .up => 2

/-- The codes of a ticket's state, in R136's order (R204). -/
def TicketState.code : TicketState → Byte
  | .pending _ => 0
  | .issued _ => 1
  | .claimed _ _ => 2

/-- The codes of the polarities, in R169's order (R204). -/
def Polarity.code : Polarity → Byte
  | .activeHigh => 0
  | .activeLow => 1

/-- The codes of the line types, in R169's order (R204). -/
def LineType.code : LineType → Byte
  | .level => 0
  | .edge => 1

/-- Function, demand mode and demand group set of a line: FFh and 0 when absent (R169, R204). -/
def lineFunctionBytes : LineFunction → List Byte
  | .none => [0, 0xFF, 0]
  | .attention => [1, 0xFF, 0]
  | .demand m gs => [2, m.code, gs]

/-- The codes of the statuses (R207). -/
def Status.code : Status → Byte
  | .done => 0
  | .notFound => 1
  | .exists => 2
  | .tableFull => 3
  | .badValue => 4
  | .wrongState => 5
  | .inOverlay => 6
  | .purging => 7
  | .busy => 8
  | .demandActive => 9
  | .overrun => 10
  | .notReady => 11

/-- The codes of the reasons of DENIED (R205). -/
def Denial.code : Denial → Byte
  | .calendarInvalid => 1
  | .unknownBadge => 2
  | .suspended => 3
  | .tenantSuspended => 4
  | .notYetValid => 5
  | .expired => 6
  | .badgeInCall => 7
  | .modeRecall => 8
  | .modeLockdown => 9
  | .quotaExhausted => 10
  | .noDestination => 11
  | .noRoute => 12
  | .noTicket => 13
  | .badgeNeeded => 14
  | .notPermitted => 15
  | .outOfSchedule => 16
  | .escortRequired => 17
  | .ticketPoolFull => 18

/-- The codes of the reasons of NO_SERVICE, the dispatcher's code in bits 7 to 4 for DECLINED (R205). -/
def NoService.code : NoService → Byte
  | .dispatcherDown => 1
  | .groupOut => 2
  | .callsFull => 3
  | .timeout => 4
  | .declined code => (code <<< 4) ||| 5
  | .cancelled => 6

/-! ## POLL (R205) -/

/-- Bytes 2 to 7 of a POLL for an answer: kind, group, car, destination, final destination, reason (R205). -/
def answerBytes : Answer → List Byte
  | .granted group car first final => [1, group, car, first, optByte final, 0]
  | .again group car dest => [2, group, car, dest, 0xFF, 0]
  | .denied why => [3, 0, 0, 0, 0xFF, why.code]
  | .noService why => [4, 0, 0, 0, 0xFF, why.code]
  | .busy => [5, 0, 0, 0, 0xFF, 0]

/-- The body of a POLL (R205). -/
def pollBody (p : Poll) : List Byte :=
  match p.answer with
  | none => [byte p.address, 0, 0, 0, 0, 0, 0xFF, 0]
  | some a => byte p.address :: (if p.again then 3 else 1) :: answerBytes a

/-- The POLL frame (R203, R205). -/
def pollFrame (p : Poll) : List Byte := envelope 0x10 (pollBody p)

/-! ## Dispatcher frames (R206) -/

/-- The bytes of a frame to the dispatcher (R203, R206). -/
def dispatcherFrame : DispatcherFrame → List Byte
  | .callPlace n g o d a c => envelope 0x20 (bytes16 n ++ [g, o, d, flagByte a, optByte c])
  | .callCancel n => envelope 0x21 (bytes16 n)
  | .modeNotice g m r => envelope 0x22 [g, m.code, optByte r]

/-! ## Replies (R207) -/

/-- The credential image as CRED_READ and CRED_NEXT return it (R207). -/
def imageBytes (b : Badge) (c : Cred) : List Byte :=
  bytes40 b ++
  [c.cls.code, c.tenant,
    flagByte c.home.isSome ||| (if c.validTo.isSome then 2#8 else 0#8) ||| (if c.quota.isSome then 4#8 else 0#8),
    c.home.getD 0] ++
  bytes16 c.validFrom ++ bytes16 (c.validTo.getD 0) ++
  [c.quota.getD 0,
    flagByte c.escort ||| (if c.accessible then 2#8 else 0#8) ||| (if c.trial then 4#8 else 0#8),
    c.state.code, flagByte c.reserved, byte c.grants.length] ++
  c.grants.flatMap grantBytes ++ List.replicate (3 * (Config.personalGrants - c.grants.length)) 0

/-- A tenant's overlay slot: its number and state; FFh and FREE where none names it, which is the model's choice (R36;
log 37). -/
def slotBytes : Option (Nat × Overlay) → List Byte
  | none => [0xFF, 0]
  | some (n, o) => [byte n, overlayCode (some o)]

/-- A slot's state, its tenant and grants when in use, its scope when APPLIED (R49; log 18). -/
def overlayBytes (o : Option Overlay) : List Byte :=
  overlayCode o ::
    match o with
    | none => []
    | some v => v.tenant :: listBytes grantBytes v.grants ++
        match v.scope with
        | none => []
        | some k => [k.code]

/-- A day type, FFh when none is given (R204). -/
def dayTypeByte : Option DayType → Byte
  | none => 0xFF
  | some t => byte t.code

/-- A calendar's state: VALID, INVALID in R52's order (R204). -/
def calendarCode (c : Calendar) : Byte := if c.valid then 0 else 1

/-- A ticket (R195); the expiry or linked call its state makes absent is zero (R204). -/
def ticketBytes (v : TicketView) : List Byte :=
  let t := v.ticket
  countBytes v.ordinal ++ bytes40 t.badge ++ [t.landing, t.group, t.dest, t.state.code] ++
  match t.state with
  | .pending l => bytes32 0 ++ bytes16 l.number
  | .issued e => bytes32 e ++ bytes16 0
  | .claimed e l => bytes32 e ++ bytes16 l.number

/-- A queued request: kind, badge and landing as REPLY carries them, zero where the kind has none (R205; log 36). -/
def requestBytes : Request → List Byte
  | .destination b l => 1 :: bytes40 b ++ [l]
  | .badgeOnly b => 2 :: bytes40 b ++ [0]
  | .anonymous l => 3 :: bytes40 0 ++ [l]

/-- A repeat memory with its end, after a presence byte (R167; log 18). -/
def memoryBytes : Option RepeatMemory → List Byte
  | none => [0]
  | some m => 1 :: bytes40 m.badge ++ [m.dest, m.group, m.car] ++ bytes32 m.time ++ bytes32 m.ends

/-- An escort window with its admitted count and end, after a presence byte (R167; log 18). -/
def escortBytes : Option EscortWindow → List Byte
  | none => [0]
  | some w => [1, w.tenant, w.dest, w.group, w.car] ++ bytes32 w.opened ++ byte w.admitted :: bytes32 w.ends

/-- What DROP_READ returns of a drop (R167; log 18). An answer stands as POLL carries it, bytes 2 to 7 with their fillers,
and then its carried mark, which is the model's choice (log 36). -/
def dropBytes (d : DropLive) : List Byte :=
  [d.state.code, byte d.qualifyRun, byte d.missRun] ++ listBytes requestBytes d.queue ++
  listBytes (fun e => answerBytes e.answer ++ [flagByte e.carried]) d.answers ++ memoryBytes d.memory ++ escortBytes d.escort

/-- A running timer: 1 and its end; a stopped one: 0 and four zero bytes, which is the model's choice (R180; log 37). -/
def timerBytes : Option Nat → List Byte
  | none => 0 :: bytes32 0
  | some e => 1 :: bytes32 e

/-- A level: high 0, low 1 (log 19). -/
def levelByte (high : Bool) : Byte := if high then 0 else 1

/-- What ALARM_READ returns of a line (R180; log 18). -/
def lineBytes (v : LineView) : List Byte :=
  [flagByte v.config.enabled, v.config.polarity.code, v.config.type.code, byte v.config.debounce] ++
  lineFunctionBytes v.config.function ++ [levelByte v.raw, levelByte v.debounced, flagByte v.active] ++
  timerBytes v.timer ++ [flagByte v.status, flagByte v.demands, flagByte v.raises]

/-- The nine values in the order of R66 (R67), without a count (log 35). -/
def paramBytes (s : Params) : List Byte :=
  [byte s.callTimeout, byte s.ticketLifetime, byte s.escortWindow, byte s.repeatWindow, byte s.livenessTimeout,
    byte s.missLimit, byte s.dropQualify, byte s.linkQualify, byte s.sweepGrace]

/-- A call in flight (R194; log 18): its slot's state (log 38), then the fields in the table's order. A badge that is
absent is presence 0 and five zero bytes, which is the model's choice (log 33). -/
def callBytes (slot : Nat) (c : Call) (t : Option TicketState) (now : Nat) : List Byte :=
  [1, byte slot] ++ bytes16 c.number ++ byte c.drop ::
  flagByte c.badge.isSome :: bytes40 (c.badge.getD 0) ++
  [c.group, c.origin, c.firstDest, optByte c.finalDest, flagByte c.accessible, flagByte c.claim, flagByte c.charge,
    optByte c.car, flagByte t.isSome] ++
  (match t with
    | none => []
    | some k => [k.code]) ++ bytes32 c.expiry ++ bytes32 now

/-- What STATUS_READ returns (R193; log 18). The 96 states of the drops and the 8 modes carry no count (log 35). -/
def statusBytes (v : StatusView) : List Byte :=
  bytes32 v.now ++ countBytes v.credentials ++ countBytes v.tenants ++ countBytes v.tickets ++ countBytes v.calls ++
  v.drops.map DropState.code ++ [v.link.code, v.inService] ++ v.modes.map Mode.code ++
  (match v.purge with
    | none => [0]
    | some (t, k) => 1 :: t :: positionBytes k) ++
  (match v.sweep with
    | none => [0]
    | some (d, k, n) => 1 :: bytes16 d ++ positionBytes k ++ countBytes n) ++
  countBytes v.lastSweep

/-- The results of a reply, in the order its rule names them (R207; log 18). ALARM_ACK's statuses go as one line set
and the attention statuses and enables as two attention sets (log 34). The results of fixed size, LANDING_READ's kinds,
TRANSFER_READ's positions and ALARM_READ's lines, carry no count (log 35). -/
def resultBytes : Results → List Byte
  | .nothing => []
  | .credState st => [st.code]
  | .quota st n => [st.code, n]
  | .cred b c => imageBytes b c
  | .tenant r slot position =>
    r.state.code :: listBytes grantBytes r.grants ++ countBytes r.count ++ slotBytes slot ++
      (match position with
        | none => []
        | some k => positionBytes k)
  | .overlay o => overlayBytes o
  | .calendarSet c t => calendarCode c :: bytes16 c.day ++ countBytes c.minute ++ [dayTypeByte t]
  | .calendar c t => calendarCode c :: bytes16 c.day ++ countBytes c.minute ++ [byte c.second, dayTypeByte t]
  | .holidays days => listBytes bytes16 days
  | .windows l => listBytes windowBytes l
  | .params s => paramBytes s
  | .landings ks => ks.map LandingKind.code
  | .group none => [0]
  | .group (some e) => 1 :: listBytes rangeBytes e.ranges ++ [e.recallLanding]
  | .transfers l => l.flatMap fun e =>
      match e with
      | none => [0]
      | some t => [1, t.first, t.landing, t.second]
  | .panel c st inCall =>
    (match c with
      | none => [0]
      | some d => [1, d.kind.code, d.landing, d.groups]) ++ [st.code, flagByte inCall]
  | .tickets now n l => bytes32 now ++ countBytes n ++ listBytes ticketBytes l
  | .drop d outstanding now => dropBytes d ++ flagByte outstanding :: bytes32 now
  | .lineStatuses s => [s]
  | .alarms ls now => ls.flatMap lineBytes ++ bytes32 now
  | .mode m => [m.code]
  | .modeOf l k ls m =>
    [flagByte l, flagByte k.opened, flagByte k.lockdown, flagByte k.recalled] ++
      listBytes (fun e : Nat × Mode => [byte e.1, e.2.code]) ls ++ [m.code]
  | .attention st en => bytes16 st ++ bytes16 en
  | .status v => statusBytes v
  | .slotFree => [0]
  | .call slot c t now => callBytes slot c t now
  | .overrun last count => [last, count]

/-- The bytes of a reply frame: kind F0h; kind answered, tag, status, results (R203, R207). -/
def replyBytes (r : Reply) : List Byte := envelope 0xF0 (r.kind :: r.tag :: r.status.code :: resultBytes r.results)

end Sys2Proof.Machine
end

