-- ==== Sys2Proof/Machine/Idle.lean ====
section
/-! DEFINITION. Machine/Idle.lean: what the part does on its own account while no command waits (log 3): a timer that is
due, else a decision for an eligible drop, else one unit of service time passes. -/

namespace Sys2Proof.Machine

/-- A moment in service time has been reached. -/
def due (now : Nat) : Option Nat → Bool
  | some e => decide (e ≤ now)
  | none => false

/-- A call timer that is due, by slot (R123). -/
def Part.dueCall (p : Part) : Option Instr :=
  (p.main.calls.find? fun e => due p.main.now (some e.2.expiry)).map fun e => .callTimerExpiry e.2.number

/-- The liveness timer, when it is due (R131). -/
def Part.dueLiveness (p : Part) : Option Instr :=
  if due p.main.now p.main.liveness then some .livenessTimerExpiry else none

/-- An ISSUED ticket whose expiry is reached, oldest first (R143). -/
def Part.dueTicket (p : Part) : Option Instr :=
  (p.main.tickets.find? (expired p.main.now)).map fun t => .ticketExpiry t.badge

/-- A drop's number as an operand. -/
def dropOperand (i : Nat) : Fin 96 := ⟨i % 96, Nat.mod_lt i (by decide)⟩

/-- A repeat memory whose end is reached (R164). -/
def Part.dueMemory (p : Part) : Option Instr :=
  (p.main.drops.find? fun e => due p.main.now (e.2.memory.map RepeatMemory.ends)).map fun e =>
    .repeatMemoryEnd (dropOperand e.1)

/-- An escort window whose end is reached (R165). -/
def Part.dueEscort (p : Part) : Option Instr :=
  (p.main.drops.find? fun e => due p.main.now (e.2.escort.map EscortWindow.ends)).map fun e =>
    .escortWindowEnd (dropOperand e.1)

/-- A line's number as an operand. -/
def lineOperand (n : Nat) : Fin 8 := ⟨n % 8, Nat.mod_lt n (by decide)⟩

/-- A debounce timer whose end is reached (R171). -/
def Part.dueLine (p : Part) : Option Instr :=
  (p.main.lines.find? fun e => due p.main.now e.2.timer).map fun e => .debounceEnd (lineOperand e.1)

/-- A decision, when a drop is eligible (R88). -/
def Part.dueDecision (p : Part) : Option Instr := p.chooseDrop.map fun _ => .decision

/-- The command the working part takes of its own account: a due timer first, then a decision (log 3). -/
def Part.nextOwn (p : Part) : Option Instr :=
  ((((((p.dueCall.or p.dueLiveness).or p.dueTicket).or p.dueMemory).or p.dueEscort).or p.dueLine).or p.dueDecision)

/-- The command the part takes of its own account; none while the main well does not run. -/
def State.nextOwn (s : State) : Option Instr :=
  match s.well with
  | .running m => Part.nextOwn ⟨s.ret, m⟩
  | .qualifying => none
  | .off => none

/-- One unit of service time passes, while the main well runs (1.6.2). -/
def State.elapse (s : State) : State :=
  match s.well with
  | .running m => { s with well := .running { m with now := m.now + 1 } }
  | .qualifying => s
  | .off => s

end Sys2Proof.Machine
end

