-- ==== Sys2Proof/Machine/Step.lean ====
section
/-! DEFINITION. Machine/Step.lean: one step: the command at the front of the queue, or what the part does on its own
account when none waits. -/

namespace Sys2Proof.Machine

/-- One step of the part. With no command waiting the part goes on by itself (log 3). -/
def step (s : State) : Host.Outcome State Fault Refusal :=
  match s.pending with
  | c :: rest => exec c { s with pending := rest }
  | [] =>
    match s.nextOwn with
    | some c => exec c s
    | none => .next s.elapse

/-- The table gives no row bits, so no word spells a command: the state is left as it is. -/
def State.withFetchWord (s : State) (nbits w : Nat) : State :=
  match decodeTableWord nbits w with
  | some c => { s with pending := c :: s.pending }
  | none => s

/-- A frame received on a link, its bytes after the start byte given: the command it spells joins the queue (R203). -/
def State.receiveFrame (s : State) (wire : Wire) (n : Nat) (bytes : List Byte) : State :=
  { s with pending := s.pending ++ [frameCommand wire n bytes] }

end Sys2Proof.Machine
end

