-- ==== Sys2Proof/Safety.lean ====
section
/-! DEFINITION. Safety.lean: the laws that hold of the part between any two steps, in the terms the statements use. Each
is decidable on a state written out. -/

namespace Sys2Proof.Safety

open Sys2Proof.Machine

/-! ## The retention well -/

/-- Every key of a table lies in a range. -/
abbrev keysWithin {α : Type} (t : Table α) (low high : Nat) : Prop := ∀ e ∈ t, low ≤ e.1 ∧ e.1 ≤ high

/-- The tables of the retention well are in their one form: keys strictly rising in their range, and no entry that an
unlisted key stands for (R1, R27, R59, R70, R72, R76, R79, R169). -/
abbrev RetentionTables (r : Retention) : Prop :=
  (Table.sorted r.creds ∧ keysWithin r.creds 1 (2 ^ 40 - 2)) ∧
  (Table.sorted r.tenants ∧ keysWithin r.tenants 1 255) ∧
  (Table.canonical [] r.schedules ∧ keysWithin r.schedules 1 Config.lastSchedule) ∧
  (Table.canonical .closed r.landings ∧ keysWithin r.landings 0 Config.lastLanding) ∧
  (Table.sorted r.groups ∧ keysWithin r.groups 0 7) ∧
  (Table.sorted r.transfers ∧ keysWithin r.transfers 0 15) ∧
  (Table.sorted r.drops ∧ keysWithin r.drops 0 95) ∧
  (Table.canonical .defaults r.lines ∧ keysWithin r.lines 0 7)

/-- The parameter lies in its range (R66). -/
abbrev paramIn (s : Params) (q : Param) : Prop := q.allows (s.value q) = true

/-- The nine parameters. -/
abbrev allParams : List Param :=
  [.callTimeout, .ticketLifetime, .escortWindow, .repeatWindow, .livenessTimeout, .missLimit, .dropQualify,
    .linkQualify, .sweepGrace]

/-- The limits of what the retention well holds (1.7; R1, R3, R30, R52, R58, R59, R62, R66, R72). -/
abbrev RetentionLimits (r : Retention) : Prop :=
  r.creds.length ≤ Config.credentials ∧
  (∀ e ∈ r.creds, e.2.grants.length ≤ Config.personalGrants ∧ e.2.grants.all grantOk = true) ∧
  (∀ e ∈ r.tenants, grantListOk e.2.grants = true) ∧
  (∀ e ∈ r.schedules, windowListOk e.2 = true) ∧
  (∀ e ∈ r.groups, rangesOk e.2.ranges = true) ∧
  holidaysOk r.holidays = true ∧
  (∀ q ∈ allParams, paramIn r.params q) ∧
  r.calendar.minute ≤ 1439 ∧ r.calendar.second ≤ 59 ∧
  r.sweep.count ≤ Config.sweepCountMax ∧ r.sweep.lastCount ≤ Config.sweepCountMax

/-- The state of a record is in step with its quota (R5), and a reserved trip can be charged (R20). -/
abbrev credInStep (c : Cred) : Prop :=
  (c.quota = some 0 → c.state ≠ .active) ∧
  (c.state = .exhausted → c.quota = some 0) ∧
  (c.reserved = true → c.quota ≠ none ∧ c.quota ≠ some 0)

/-- Every record is in step with its quota (R5, R20). -/
abbrev CredentialsInStep (r : Retention) : Prop := ∀ e ∈ r.creds, credInStep e.2

/-- The number of records naming a tenant (R29). -/
def recordsNaming (r : Retention) (t : Byte) : Nat := (r.creds.filter fun e => decide (e.2.tenant = t)).length

/-- Every record names tenant 0 or a present tenant, each present tenant's count is the number of records naming it, and
the purge walker works on the one PURGING tenant and leaves no record of it at or below its position (R8, R29, R38). -/
abbrev TenantsCounted (r : Retention) : Prop :=
  (∀ e ∈ r.creds, e.2.tenant = 0 ∨ (Table.lookup r.tenants e.2.tenant.toNat).isSome = true) ∧
  (∀ e ∈ r.tenants, e.2.count = recordsNaming r (byte e.1)) ∧
  (∀ e ∈ r.tenants, e.2.state = .purging → r.purge.running = true ∧ r.purge.tenant = byte e.1) ∧
  (r.purge.running = true →
    (Table.lookup r.tenants r.purge.tenant.toNat).map Tenant.state = some .purging ∧
    ∀ e ∈ r.creds, e.1 ≤ r.purge.position → e.2.tenant ≠ r.purge.tenant)

/-- A configured group serves a landing. -/
abbrev served (r : Retention) (group landing : Byte) : Bool :=
  match Table.lookup r.groups group.toNat with
  | some g => inRanges g.ranges landing
  | none => false

/-- The map is consistent (R69). -/
abbrev MapConsistent (r : Retention) : Prop :=
  (∀ e ∈ r.groups, inRanges e.2.ranges e.2.recallLanding = true) ∧
  (∀ e ∈ r.transfers, e.2.first ≠ e.2.second ∧ served r e.2.first e.2.landing = true ∧
    served r e.2.second e.2.landing = true ∧ Table.get .closed r.landings e.2.landing.toNat = .sky) ∧
  (∀ e ∈ r.drops, e.2.groups ≠ 0 ∧ (∀ g ∈ eight, inSet e.2.groups g = true → served r (byte g) e.2.landing = true) ∧
    (e.2.kind = .sky → Table.get .closed r.landings e.2.landing.toNat = .sky))

/-- The laws of the retention well. -/
structure RetentionLaws (r : Retention) : Prop where
  tables : RetentionTables r
  limits : RetentionLimits r
  inStep : CredentialsInStep r
  counted : TenantsCounted r
  map : MapConsistent r

/-! ## The main well -/

/-- The tables of the main well are in their one form, each entry's key in its range (R41, R113, R151, R154, R171, R175). -/
abbrev MainTables (m : Main) : Prop :=
  (Table.sorted m.overlays ∧ keysWithin m.overlays 0 1) ∧
  (Table.sorted m.calls ∧ keysWithin m.calls 0 31) ∧
  (Table.canonical .unconfigured m.drops ∧ keysWithin m.drops 0 95) ∧
  (Table.canonical .fresh m.links ∧ keysWithin m.links 0 5) ∧
  (Table.canonical .quiet m.lines ∧ keysWithin m.lines 0 7) ∧
  (Table.canonical .off m.marks ∧ keysWithin m.marks 0 7) ∧
  (Table.canonical .normal m.modes ∧ keysWithin m.modes 0 7)

/-- The limits of what the main well holds (1.7; R88, R133, R135, R184). -/
abbrev MainLimits (m : Main) : Prop :=
  m.arbiter < Config.drops ∧
  m.calls.length ≤ Config.callSlots ∧
  m.sendQueue.length ≤ Config.sendQueue ∧
  m.tickets.length ≤ Config.tickets ∧
  (∀ o ∈ m.overrun, 1 ≤ o.count ∧ o.count ≤ 255) ∧
  (m.overrun ≠ none → m.mgmt ≠ .ready) ∧ m.mgmt ≠ .closed

/-- The overlay slots name different tenants, each present and not PURGING, and hold well-formed lists (R41). -/
abbrev OverlaysApart (r : Retention) (m : Main) : Prop :=
  m.overlays.Pairwise (fun a b => a.2.tenant ≠ b.2.tenant) ∧
  ∀ e ∈ m.overlays, grantListOk e.2.grants = true ∧
    ∃ s ∈ (Table.lookup r.tenants e.2.tenant.toNat).map Tenant.state, s ≠ .purging

/-- What a drop holds against the bound of R161: queued requests, a call in flight, pending answers. -/
def load (m : Main) (i : Nat) (d : DropLive) : Nat :=
  d.queue.length + (if m.calls.any fun e => decide (e.2.drop = i) then 1 else 0) + d.answers.length

/-- A drop is live exactly when it is configured, holds nothing unless it is UP, and keeps the bound of R161 (R79, R154,
R159, R161). -/
abbrev DropsBounded (r : Retention) (m : Main) : Prop :=
  (∀ e ∈ m.drops, e.2.state ≠ .unconfigured ∧ (Table.lookup r.drops e.1).isSome = true ∧
    (e.2.state ≠ .up → e.2.queue = [] ∧ e.2.answers = [] ∧ e.2.memory = none ∧ e.2.escort = none) ∧
    e.2.queue.length ≤ Config.requestQueue ∧ load m e.1 e.2 ≤ Config.answerList) ∧
  (∀ e ∈ r.drops, (Table.lookup m.drops e.1).isSome = true)

/-- The drop a poll is addressed to. -/
def polledDrop (m : Main) (link : Nat) (q : Poll) : DropLive := Table.get .unconfigured m.drops (dropIndex link q.address)

/-- An outstanding poll that carries an answer finds it, marked, at the head of an UP drop's list; one that carries none
left room for an answer (R152, R161, R163). -/
abbrev pollInStep (m : Main) (link : Nat) (q : Poll) : Prop :=
  q.address ≤ 15 ∧
  (∀ a ∈ q.answer, (polledDrop m link q).state = .up → (polledDrop m link q).answers.head? = some ⟨a, true⟩) ∧
  (q.answer = none → load m (dropIndex link q.address) (polledDrop m link q) ≤ 3)

/-- Every outstanding poll is in step with its drop (R152, R161). -/
abbrev PollsInStep (m : Main) : Prop := ∀ e ∈ m.links, ∀ q ∈ e.2.poll, pollInStep m e.1 q

/-- No two calls in flight share a number, a badge or a drop; numbers are never 0; a call names a configured drop (R80,
R114, R115). -/
abbrev CallsApart (r : Retention) (m : Main) : Prop :=
  m.calls.Pairwise (fun a b => a.2.number ≠ b.2.number ∧ a.2.drop ≠ b.2.drop ∧
    (a.2.badge = none ∨ a.2.badge ≠ b.2.badge)) ∧
  ∀ e ∈ m.calls, e.2.number ≠ 0 ∧ (Table.lookup r.drops e.2.drop).isSome = true

/-- Trip reserved is set exactly on the records whose badge a call in flight names with a trip to charge (R20). -/
abbrev TripsReserved (r : Retention) (m : Main) : Prop :=
  (∀ e ∈ r.creds, e.2.reserved = m.calls.any fun c => c.2.charge && decide (c.2.badge.map BitVec.toNat = some e.1)) ∧
  ∀ c ∈ m.calls, c.2.charge = true → c.2.badge ≠ none

/-- A record entitles its badge to tickets: ACTIVE or EXHAUSTED, of tenant 0 or a LIVE tenant (R137). -/
abbrev entitles (r : Retention) (c : Cred) : Prop :=
  c.state ≠ .suspended ∧ (c.tenant = 0 ∨ (Table.lookup r.tenants c.tenant.toNat).map Tenant.state = some .live)

/-- A ticket's link is answered by the call in its slot, which holds its number and names its badge (R137). -/
abbrev linkAnswered (m : Main) (t : Ticket) : Prop :=
  ∀ l ∈ t.state.link, ∃ c ∈ Table.lookup m.calls l.slot, c.number = l.number ∧ c.badge = some t.badge

/-- A ticket is PENDING. -/
def isPending (t : Ticket) : Bool := t.state.link.isSome && !(match t.state with | .claimed _ _ => true | _ => false)

/-- The pool holds tickets only for credentials entitled to them, at most one PENDING and one ISSUED or CLAIMED for a
badge, each link answered by its call and no two tickets linked to one call (R137). -/
abbrev TicketsEntitled (r : Retention) (m : Main) : Prop :=
  (∀ t ∈ m.tickets, (∃ c ∈ Table.lookup r.creds t.badge.toNat, entitles r c) ∧ linkAnswered m t) ∧
  m.tickets.Pairwise (fun a b => (a.badge ≠ b.badge ∨ isPending a ≠ isPending b) ∧
    (a.state.link = none ∨ a.state.link ≠ b.state.link))

/-- Each held mode is the effective mode of R178, and a RECALL demand has set its latch (R176, R178). -/
abbrev ModesHeld (r : Retention) (m : Main) : Prop :=
  ∀ g ∈ eight, Part.mode ⟨r, m⟩ g = Part.effectiveMode ⟨r, m⟩ g ∧
    (Part.holds ⟨r, m⟩ g .recalled = true → inSet r.latches g = true)

/-- No call in flight is on a group in RECALL and no ticket leads to one (R146, R179). -/
abbrev RecallClears (m : Main) : Prop :=
  (∀ e ∈ m.calls, Table.get .normal m.modes e.2.group.toNat ≠ .recalled) ∧
  ∀ t ∈ m.tickets, Table.get .normal m.modes t.group.toNat ≠ .recalled

/-- Calls are in flight only while the link is UP; the liveness timer runs unless it is DOWN (R129, R131). -/
abbrev LinkInStep (m : Main) : Prop :=
  (m.link ≠ .up → m.calls = []) ∧
  (m.link = .down ↔ m.liveness = none) ∧
  (m.link = .down → m.aliveRun = 0 ∧ m.inService = 0) ∧
  (m.link = .up → m.aliveRun = 0)

/-- A line's debounce timer runs exactly while its raw level differs from its debounced level (R171). -/
abbrev LinesDebounced (m : Main) : Prop := ∀ e ∈ m.lines, e.2.timer.isSome = decide (e.2.raw ≠ e.2.debounced)

/-- The laws of the main well beside a retention well. -/
structure MainLaws (r : Retention) (m : Main) : Prop where
  tables : MainTables m
  limits : MainLimits m
  overlays : OverlaysApart r m
  drops : DropsBounded r m
  polls : PollsInStep m
  calls : CallsApart r m
  trips : TripsReserved r m
  tickets : TicketsEntitled r m
  modes : ModesHeld r m
  recalled : RecallClears m
  link : LinkInStep m
  lines : LinesDebounced m

/-- The laws of the part: those of the retention well always, those of the main well while it is RUNNING, when the
retention well is intact. -/
def Inv (s : State) : Prop :=
  RetentionLaws s.ret ∧
  match s.well with
  | .running m => MainLaws s.ret m ∧ s.ret.intact = true
  | .qualifying => True
  | .off => True

/-! ## The terms of the statements -/

/-- The main well is RUNNING with the given contents and the management link is READY. -/
abbrev Ready (s : State) (m : Main) : Prop := s.well = .running m ∧ m.mgmt = .ready

/-- The working part of a state whose main well is RUNNING with the given contents. -/
abbrev partOf (s : State) (m : Main) : Part := ⟨s.ret, m⟩

/-- The main well when a frame on the management link has ended (R203). -/
abbrev listening (m : Main) : Main := { m with receiving := setPut m.receiving 7 false }

/-- The main well when a command has been answered with a reply and has changed nothing else (R184). -/
abbrev heard (m : Main) (r : Reply) : Main := { listening m with mgmt := .replying r }

/-- A command was taken in READY, changed the part to `⟨ret, main⟩` and is answered DONE with results. -/
abbrev doneWith (c : Instr) (s : State) (ret : Retention) (main : Main) (kind tag : Byte) (results : Results) : Prop :=
  exec c s = .next (s.withPart ⟨ret, { main with mgmt := .replying ⟨kind, tag, .done, results⟩ }⟩)

/-- A command was taken in READY, changed nothing and is answered with a status and no results (R186). -/
abbrev refusedWith (c : Instr) (s : State) (m : Main) (kind tag : Byte) (st : Status) : Prop :=
  exec c s = .next (s.withPart ⟨s.ret, heard m ⟨kind, tag, st, .nothing⟩⟩)

/-- The badge of a record's key in the credential table. -/
abbrev credAt (r : Retention) (b : Badge) : Option Cred := Table.lookup r.creds b.toNat

/-- The present record of a tenant. -/
abbrev tenantAt (r : Retention) (t : Byte) : Option Tenant := Table.lookup r.tenants t.toNat

/-- A body is malformed. -/
def isMalformed {α : Type} : Body α → Bool
  | .read _ => false
  | .malformed => true

/-- The kind, the tag and the malformed mark of a management command (R207); none for the other events. -/
def heading : Instr → Option (Byte × Byte × Bool)
  | .credEnrol t b => some (0x01, t, isMalformed b)
  | .credAmend t b => some (0x02, t, isMalformed b)
  | .credSuspend t b => some (0x03, t, isMalformed b)
  | .credReinstate t b => some (0x04, t, isMalformed b)
  | .credRetire t b => some (0x05, t, isMalformed b)
  | .quotaReload t b => some (0x06, t, isMalformed b)
  | .credRead t b => some (0x07, t, isMalformed b)
  | .credNext t b => some (0x08, t, isMalformed b)
  | .tenantCreate t b => some (0x09, t, isMalformed b)
  | .tenantFloors t b => some (0x0A, t, isMalformed b)
  | .tenantSuspend t b => some (0x0B, t, isMalformed b)
  | .tenantReinstate t b => some (0x0C, t, isMalformed b)
  | .tenantPurge t b => some (0x0D, t, isMalformed b)
  | .tenantRead t b => some (0x0E, t, isMalformed b)
  | .overlayOpen t b => some (0x0F, t, isMalformed b)
  | .overlayEdit t b => some (0x10, t, isMalformed b)
  | .overlayApply t b => some (0x11, t, isMalformed b)
  | .overlayCommit t b => some (0x12, t, isMalformed b)
  | .overlayDiscard t b => some (0x13, t, isMalformed b)
  | .overlayRead t b => some (0x14, t, isMalformed b)
  | .calSet t b => some (0x15, t, isMalformed b)
  | .calRead t b => some (0x16, t, isMalformed b)
  | .holidaySet t b => some (0x17, t, isMalformed b)
  | .holidayRead t b => some (0x18, t, isMalformed b)
  | .schedSet t b => some (0x19, t, isMalformed b)
  | .schedRead t b => some (0x1A, t, isMalformed b)
  | .paramSet t b => some (0x1B, t, isMalformed b)
  | .paramRead t b => some (0x1C, t, isMalformed b)
  | .landingSet t b => some (0x1D, t, isMalformed b)
  | .landingRead t b => some (0x1E, t, isMalformed b)
  | .groupSet t b => some (0x1F, t, isMalformed b)
  | .groupClear t b => some (0x20, t, isMalformed b)
  | .groupRead t b => some (0x21, t, isMalformed b)
  | .transferSet t b => some (0x22, t, isMalformed b)
  | .transferClear t b => some (0x23, t, isMalformed b)
  | .transferRead t b => some (0x24, t, isMalformed b)
  | .panelSet t b => some (0x25, t, isMalformed b)
  | .panelRead t b => some (0x26, t, isMalformed b)
  | .ticketRead t b => some (0x27, t, isMalformed b)
  | .dropRead t b => some (0x28, t, isMalformed b)
  | .alarmSet t b => some (0x29, t, isMalformed b)
  | .alarmAck t b => some (0x2A, t, isMalformed b)
  | .alarmRead t b => some (0x2B, t, isMalformed b)
  | .modeDemand t b => some (0x2C, t, isMalformed b)
  | .groupResume t b => some (0x2D, t, isMalformed b)
  | .modeRead t b => some (0x2E, t, isMalformed b)
  | .attnAck t b => some (0x2F, t, isMalformed b)
  | .attnEnable t b => some (0x30, t, isMalformed b)
  | .attnRead t b => some (0x31, t, isMalformed b)
  | .statusRead t b => some (0x32, t, isMalformed b)
  | .callRead t b => some (0x33, t, isMalformed b)
  | .restart t b => some (0x34, t, isMalformed b)
  | _ => none

/-- An event that moves a pin or a well: the power events, and the end of a reply, which may be RESTART's (R198 to R201). -/
def movesWell : Instr → Bool
  | .startConditionBegins => true
  | .startConditionCeases _ _ => true
  | .startSequence _ => true
  | .retentionPowerGain => true
  | .retentionSupplyLoss => true
  | .replySent => true
  | _ => false

/-- An event that is taken while the main well does not run: the power events and the calendar's (R53, R198). -/
def takenWhileOff : Instr → Bool
  | .startConditionBegins => true
  | .startConditionCeases _ _ => true
  | .startSequence _ => true
  | .retentionPowerGain => true
  | .retentionSupplyLoss => true
  | .secondAdvance => true
  | .minuteAdvance => true
  | .dayRollover => true
  | _ => false

/-- A group enters RECALL between two parts (R179). -/
def entersRecall (p q : Part) (g : Nat) : Bool := decide (p.mode g ≠ .recalled) && decide (q.mode g = .recalled)

/-- The calls that a recomputing ends: those of the groups that enter RECALL, in slot order (R124). -/
def endedCalls (p q : Part) : List (Nat × Call) := p.main.calls.filter fun e => entersRecall p q e.2.group.toNat

/-- The frames that a recomputing of groups asks for: for each group whose mode changes its notice, and, when it enters
RECALL, one CALL_CANCEL for each of its calls in slot order (R124, R179). -/
def askedFrames (gs : List Nat) (p q : Part) : List DispatcherFrame :=
  (gs.filter fun g => decide (q.mode g ≠ p.mode g)).flatMap fun g =>
    .modeNotice (byte g) (q.mode g) ((Table.lookup p.ret.groups g).map GroupEntry.recallLanding) ::
      ((endedCalls p q).filter fun e => decide (e.2.group.toNat = g)).map fun e => .callCancel e.2.number

/-- What recomputing the groups of a list makes of a part (R176, R178, R179). -/
structure Recomputed (gs : List Nat) (p q : Part) : Prop where
  /-- A RECALL demand held on a group sets its latch, and no other latch changes. -/
  latches : ∀ g ∈ eight, inSet q.ret.latches g = (inSet p.ret.latches g || (decide (g ∈ gs) && p.holds g .recalled))
  /-- The held mode is the effective mode. -/
  modes : ∀ g ∈ gs, q.mode g = q.effectiveMode g
  /-- No other group's mode changes. -/
  others : ∀ g ∈ eight, g ∉ gs → q.mode g = p.mode g
  /-- The frames asked for join the send queue, as far as its 64 places allow (R133). -/
  frames : p.main.sendQueue.length ≤ 64 → q.main.sendQueue = (p.main.sendQueue ++ askedFrames gs p q).take 64
  /-- The calls of a group that enters RECALL are ended, and no other. -/
  calls : q.main.calls = p.main.calls.filter fun e => !entersRecall p q e.2.group.toNat
  /-- The trips of the ended calls are released, and no record changes else (R121, R124). -/
  release : ∀ b, q.cred b = (p.cred b).map fun c =>
    if ((endedCalls p q).any fun e => e.2.charge && decide (e.2.badge = some b)) = true then { c with reserved := false }
    else c
  /-- A ticket that leads to a group that enters RECALL leaves (R146); one that an ended call holds leaves when PENDING and
  is ISSUED again when CLAIMED, unless its expiry has passed (R121); every other ticket stays, in its order. -/
  tickets : q.main.tickets = p.main.tickets.filterMap fun t =>
    if entersRecall p q t.group.toNat = true then none
    else if ((endedCalls p q).any fun e => t.linkedTo ⟨e.2.number, e.1⟩) = true then
      match t.state with
      | .pending _ => none
      | .issued e => some { t with state := .issued e }
      | .claimed e _ => if e ≤ p.main.now then none else some { t with state := .issued e }
    else some t
  /-- An UP drop is told CANCELLED of each ended call that names it, and no drop changes else (R121, R124). -/
  answers : ∀ i, q.drop i =
    if (p.drop i).state = .up then
      { p.drop i with answers := (p.drop i).answers ++
          ((endedCalls p q).filter fun e => decide (e.2.drop = i)).map fun _ => ⟨.noService .cancelled, false⟩ }
    else p.drop i
  /-- Where no group enters RECALL, records, tickets, drops and calls stay. -/
  calm : (∀ g ∈ gs, entersRecall p q g = false) →
    q.ret.creds = p.ret.creds ∧ q.main.tickets = p.main.tickets ∧ q.main.drops = p.main.drops
  /-- Where no mode changes, nothing is sent. -/
  quiet : (∀ g ∈ gs, q.mode g = p.mode g) → q.main = p.main
  /-- Everything else of the retention well stays. -/
  ret : q.ret = { p.ret with creds := q.ret.creds, latches := q.ret.latches }
  /-- Everything else of the main well stays. -/
  main : q.main = { p.main with
    modes := q.main.modes
    sendQueue := q.main.sendQueue
    tickets := q.main.tickets
    drops := q.main.drops
    calls := q.main.calls }

/-- What an unwinding ending of a call makes of a part, with the reason its panel is told (R121). -/
structure Unwound (p q : Part) (slot : Nat) (c : Call) (why : NoService) : Prop where
  /-- The reservation of the call's trip is released, and no record changes else. -/
  release : ∀ b, q.cred b = (p.cred b).map fun r =>
    if c.charge = true ∧ c.badge = some b then { r with reserved := false } else r
  /-- A linked PENDING ticket leaves, a linked CLAIMED one is ISSUED again unless its expiry has passed. -/
  tickets : q.main.tickets = p.main.tickets.filterMap fun t =>
    if t.linkedTo ⟨c.number, slot⟩ then
      match t.state with
      | .pending _ => none
      | .issued e => some { t with state := .issued e }
      | .claimed e _ => if e ≤ p.main.now then none else some { t with state := .issued e }
    else some t
  /-- The answer joins the list of the call's drop when that is UP. -/
  answer : q.drop c.drop =
    if (p.drop c.drop).state = .up then
      { p.drop c.drop with answers := (p.drop c.drop).answers ++ [⟨.noService why, false⟩] }
    else p.drop c.drop
  /-- No other drop changes. -/
  drops : ∀ j, j ≠ c.drop → q.drop j = p.drop j
  /-- The slot becomes FREE, and nothing else changes. -/
  ret : q.ret = { p.ret with creds := q.ret.creds }
  main : q.main = { p.main with
    tickets := q.main.tickets, drops := q.main.drops, calls := Table.erase p.main.calls slot }

/-- An address is the next one a link polls after a position: the least configured one above the position, else the least
configured one; before the first poll the position stands before address 0 (R151). -/
def nextPolled (configured : Nat → Bool) (position : Option Nat) (a : Nat) : Prop :=
  a < 16 ∧ configured a = true ∧
    (((∀ q, position = some q → q < a) ∧ ∀ b, configured b = true → (∀ q, position = some q → q < b) → a ≤ b) ∨
     ((∃ q, position = some q ∧ ∀ b < 16, configured b = true → b ≤ q) ∧ ∀ b, configured b = true → a ≤ b))

/-- A link of a part has no poll outstanding, and sends its next one (R151, R152). -/
structure NextPoll (link : Nat) (p q : Part) : Prop where
  /-- With no configured drop on the link nothing is sent. -/
  silent : (∀ a < 16, Table.lookup p.ret.drops (16 * link + a) = none) → q = p
  /-- The poll names the next address and carries the oldest answer of its drop, AGAIN when that was carried before. -/
  poll : ∀ a, nextPolled (fun b => decide (b < 16) && (Table.lookup p.ret.drops (16 * link + b)).isSome)
      (p.panelLink link).position a →
    q.panelLink link = ⟨some a, some ⟨a, ((p.drop (16 * link + a)).answers.head?).map AnswerEntry.answer,
      (((p.drop (16 * link + a)).answers.head?).map AnswerEntry.carried).getD false, false⟩⟩ ∧
    q.drop (16 * link + a) = { p.drop (16 * link + a) with answers :=
      match (p.drop (16 * link + a)).answers with
      | [] => []
      | e :: rest => { e with carried := true } :: rest } ∧
    ∀ n, n ≠ 16 * link + a → q.drop n = p.drop n
  /-- No other link changes. -/
  links : ∀ l, l ≠ link → q.panelLink l = p.panelLink l
  /-- Nothing else changes. -/
  ret : q.ret = p.ret
  main : q.main = { p.main with drops := q.main.drops, links := q.main.links }

/-- The MODE_NOTICE frames of the configured groups, in ascending order, as modes and map stand in a part (R133). -/
def notices (p : Part) : List DispatcherFrame :=
  (eight.filter fun g => (Table.lookup p.ret.groups g).isSome).map fun g =>
    .modeNotice (byte g) (p.mode g) ((Table.lookup p.ret.groups g).map GroupEntry.recallLanding)

/-! ## Checks made in order -/

/-- The answer of the first check that fails; each check is given as the condition under which it fails. -/
def firstFailing (checks : List (Bool × Status)) : Option Status := (checks.find? Prod.fst).map Prod.snd

/-- A command taken in READY is refused by the first of its checks that fails. -/
abbrev refusedInOrder (c : Instr) (s : State) (m : Main) (kind tag : Byte) (checks : List (Bool × Status)) : Prop :=
  ∀ st, firstFailing checks = some st → refusedWith c s m kind tag st

/-- The state of a present tenant. -/
abbrev tenantState (r : Retention) (t : Byte) : Option TenantState := (tenantAt r t).map Tenant.state

/-- A tenant other than 0 that is FREE. -/
abbrev namesFree (r : Retention) (t : Byte) : Bool := decide (t ≠ 0) && (tenantAt r t).isNone

/-- A tenant other than 0 that is PURGING. -/
abbrev namesPurging (r : Retention) (t : Byte) : Bool := decide (t ≠ 0) && decide (tenantState r t = some .purging)

/-- An overlay slot, OPEN or APPLIED, names a tenant. -/
abbrev inOverlay (m : Main) (t : Byte) : Bool := m.overlays.any fun e => decide (e.2.tenant = t)

/-- The checks of CRED_ENROL (R7). -/
def enrolChecks (r : Retention) (m : Main) (i : CredImage) : List (Bool × Status) :=
  [(!imageOk i, .badValue),
    ((credAt r i.badge).isSome, .exists),
    (m.calls.any fun e => decide (e.2.badge = some i.badge), .wrongState),
    (namesFree r i.tenant || namesPurging r i.tenant, .badValue),
    (decide (16384 ≤ r.creds.length), .tableFull)]

/-- The checks of a command on a record (R12, R15, R17). -/
def badgeChecks (r : Retention) (b : Badge) : List (Bool × Status) :=
  [(decide (b = 0) || decide (b = BitVec.allOnes 40), .badValue), ((credAt r b).isNone, .notFound)]

/-- The checks of CRED_AMEND (R9). -/
def amendChecks (r : Retention) (i : CredImage) : List (Bool × Status) :=
  badgeChecks r i.badge ++
  [(!imageOk i, .badValue),
    (namesFree r i.tenant, .badValue),
    ((credAt r i.badge).any (fun c => namesPurging r c.tenant) || namesPurging r i.tenant, .purging),
    ((credAt r i.badge).any Cred.reserved && (decide (i.quota = none) || decide (i.quota = some 0)), .badValue)]

/-- The checks of CRED_REINSTATE (R13). -/
def reinstateChecks (r : Retention) (b : Badge) : List (Bool × Status) :=
  badgeChecks r b ++ [(decide ((credAt r b).map Cred.state ≠ some .suspended), .wrongState)]

/-- The checks of QUOTA_RELOAD (R23). -/
def reloadChecks (r : Retention) (f : QuotaFields) : List (Bool × Status) :=
  badgeChecks r f.badge ++
  [(decide (255 < f.remaining.toNat), .badValue),
    ((credAt r f.badge).any Cred.reserved && decide (f.remaining = 0), .badValue)]

/-- The checks of TENANT_CREATE (R31). -/
def createChecks (r : Retention) (f : TenantFields) : List (Bool × Status) :=
  [(decide (f.tenant = 0), .badValue), (!grantListOk f.grants, .badValue), ((tenantAt r f.tenant).isSome, .exists)]

/-- The checks of a command on a present tenant (R36). -/
def tenantChecks (r : Retention) (t : Byte) : List (Bool × Status) :=
  [(decide (t = 0), .badValue), ((tenantAt r t).isNone, .notFound)]

/-- The checks of TENANT_FLOORS (R32). -/
def floorsChecks (r : Retention) (m : Main) (f : TenantFields) : List (Bool × Status) :=
  tenantChecks r f.tenant ++
  [(!grantListOk f.grants, .badValue),
    (decide (tenantState r f.tenant = some .purging), .purging),
    (inOverlay m f.tenant, .inOverlay)]

/-- The checks of TENANT_SUSPEND (R34). -/
def suspendChecks (r : Retention) (t : Byte) : List (Bool × Status) :=
  tenantChecks r t ++ [(decide (tenantState r t = some .purging), .wrongState)]

/-- The checks of TENANT_REINSTATE (R35). -/
def restoreChecks (r : Retention) (t : Byte) : List (Bool × Status) :=
  tenantChecks r t ++ [(decide (tenantState r t ≠ some .suspended), .wrongState)]

/-- The checks of TENANT_PURGE (R37). -/
def purgeChecks (r : Retention) (m : Main) (t : Byte) : List (Bool × Status) :=
  tenantChecks r t ++
  [(r.purge.running, .busy),
    (decide (tenantState r t ≠ some .suspended), .wrongState),
    (inOverlay m t, .inOverlay)]

/-- The checks of OVERLAY_OPEN (R43). -/
def openChecks (r : Retention) (m : Main) (f : OverlayOpenFields) : List (Bool × Status) :=
  [(decide (2 ≤ f.slot.toNat) || decide (f.tenant = 0), .badValue),
    ((Table.lookup m.overlays f.slot.toNat).isSome, .wrongState),
    ((tenantAt r f.tenant).isNone, .notFound),
    (decide (tenantState r f.tenant = some .purging), .purging),
    (inOverlay m f.tenant, .inOverlay)]

/-- The checks of a command on a slot in use, whose own operands are in order or not (section 2.6; R44 to R47). -/
def slotChecks (m : Main) (slot : Byte) (operandsOk : Bool) : List (Bool × Status) :=
  [(decide (2 ≤ slot.toNat), .badValue), (!operandsOk, .badValue),
    ((Table.lookup m.overlays slot.toNat).isNone, .wrongState)]

/-- The checks of LANDING_SET (R71). -/
def landingChecks (r : Retention) (f : LandingFields) : List (Bool × Status) :=
  [(decide (127 < f.low.toNat) || decide (127 < f.high.toNat) || decide (f.high < f.low) ||
      (LandingKind.ofCode f.kind).isNone, .badValue),
    (decide (LandingKind.ofCode f.kind ≠ some .sky) &&
      ((r.transfers.any fun e => decide (f.low ≤ e.2.landing ∧ e.2.landing ≤ f.high ∧
          Table.get .closed r.landings e.2.landing.toNat = .sky)) ||
        r.drops.any fun e => decide (e.2.kind = .sky ∧ f.low ≤ e.2.landing ∧ e.2.landing ≤ f.high ∧
          Table.get .closed r.landings e.2.landing.toNat = .sky)), .wrongState)]

/-- The checks of GROUP_SET (R73). -/
def groupChecks (r : Retention) (f : GroupFields) : List (Bool × Status) :=
  [(decide (7 < f.group.toNat) || !rangesOk f.ranges || decide (127 < f.recallLanding.toNat), .badValue),
    (!inRanges f.ranges f.recallLanding, .badValue),
    (r.transfers.any fun e => decide (e.2.first = f.group ∨ e.2.second = f.group) && !inRanges f.ranges e.2.landing,
      .wrongState),
    (r.drops.any fun e => inSet e.2.groups f.group.toNat && !inRanges f.ranges e.2.landing, .wrongState)]

/-- The checks of GROUP_CLEAR (R74). -/
def clearChecks (r : Retention) (g : Byte) : List (Bool × Status) :=
  [(decide (7 < g.toNat), .badValue),
    ((r.transfers.any fun e => decide (e.2.first = g ∨ e.2.second = g)) || r.drops.any fun e => inSet e.2.groups g.toNat,
      .wrongState)]

/-- The checks of TRANSFER_SET (R77); an unconfigured group serves no landing. -/
def transferChecks (r : Retention) (f : TransferFields) : List (Bool × Status) :=
  [(decide (15 < f.position.toNat) || decide (7 < f.first.toNat) || decide (7 < f.second.toNat) ||
      decide (127 < f.landing.toNat), .badValue),
    (decide (f.first = f.second), .badValue),
    (decide (Table.get .closed r.landings f.landing.toNat ≠ .sky), .badValue),
    (!served r f.first f.landing || !served r f.second f.landing, .badValue)]

/-- A call in flight names a drop. -/
abbrev callNames (m : Main) (drop : Byte) : Bool := m.calls.any fun e => decide (e.2.drop = drop.toNat)

/-- The checks of PANEL_SET in its two forms (R80, R81). -/
def panelChecks (r : Retention) (m : Main) : PanelFields → List (Bool × Status)
  | .configure drop kind landing groups =>
    [(decide (95 < drop.toNat) || (DropKind.ofCode kind).isNone || decide (127 < landing.toNat) || decide (groups = 0),
        .badValue),
      (eight.any fun g => inSet groups g && !served r (byte g) landing, .badValue),
      (decide (DropKind.ofCode kind = some .sky) && decide (Table.get .closed r.landings landing.toNat ≠ .sky), .badValue),
      (callNames m drop, .wrongState)]
  | .unconfigure drop => [(decide (95 < drop.toNat), .badValue), (callNames m drop, .wrongState)]

/-! ## Decisions -/

/-- A badge request for a record passes steps 1 to 3 of a decision (R90 to R92). -/
structure PassesCredential (p : Part) (d : DropLive) (r : Request) (b : Badge) (c : Cred) : Prop where
  badge : requestBadge r = some b
  /-- No repeat memory matches. -/
  memory : ∀ k, d.memory = some k → k.badge = b → requestLanding r ≠ none ∧ requestLanding r ≠ some k.dest
  calendar : p.ret.calendar.valid = true
  record : p.cred b = some c
  state : c.state ≠ .suspended
  tenant : c.tenant = 0 ∨ (p.tenant c.tenant).map Tenant.state = some .live
  validFrom : c.validFrom ≤ p.ret.calendar.day
  validTo : ∀ e, c.validTo = some e → p.ret.calendar.day ≤ e
  /-- No call in flight names the badge. -/
  free : ∀ e ∈ p.main.calls, e.2.badge ≠ some b

/-- A route passes steps 8 and 9 of a decision for a holder (R99, R100). -/
structure PassesService (p : Part) (who : Holder) (route : Route) : Prop where
  link : p.main.link = .up
  service : ∀ g ∈ route.groups, inSet p.main.inService g.toNat = true
  recalled : ∀ g ∈ route.groups, p.mode g.toNat ≠ .recalled
  lockdown : isClass who .security = true ∨ ∀ g ∈ route.groups, p.mode g.toNat ≠ .lockdown

/-- The escort window of a drop admits a credential (R106). -/
abbrev windowAdmits (d : DropLive) (c : Cred) : Prop := ∃ w ∈ d.escort, w.tenant = c.tenant ∧ w.admitted < 4

/-- The destination that step 6 takes: the landing carried, else the destination of the drop's escort window for an
ESCORT_REQUIRED credential of its tenant, else the home landing (R96). -/
def destinationOf (d : DropLive) (landing : Option Byte) (who : Holder) : Option Byte :=
  landing.or (((who.bind fun h => if h.2.escort then d.escort else none).bind fun w =>
      if who.any (fun h => decide (h.2.tenant = w.tenant)) then some w.dest else none).or
    (who.bind fun h => h.2.home))

/-- The number that follows a call number (R115). -/
def followingNumber (n : Half) : Half := if n = 65535#16 then 1 else n + 1

/-- The number at a distance after the counter (R115). -/
def numberAt (counter : Half) : Nat → Half
  | 0 => counter
  | k + 1 => followingNumber (numberAt counter k)

/-! ## The empty queue -/

/-- The events that are due at the service time, in the order in which the part takes them while no command waits (log 3):
call timers by slot, the liveness timer, tickets, repeat memories, escort windows, debounce timers. -/
def dueNow (m : Main) : List Instr :=
  ((m.calls.filter fun e => decide (e.2.expiry ≤ m.now)).map fun e => .callTimerExpiry e.2.number) ++
  (if (m.liveness.any fun e => decide (e ≤ m.now)) = true then [.livenessTimerExpiry] else []) ++
  ((m.tickets.filter (expired m.now)).map fun t => .ticketExpiry t.badge) ++
  ((m.drops.filter fun e => e.2.memory.any fun k => decide (k.ends ≤ m.now)).map fun e =>
    .repeatMemoryEnd (dropOperand e.1)) ++
  ((m.drops.filter fun e => e.2.escort.any fun w => decide (w.ends ≤ m.now)).map fun e =>
    .escortWindowEnd (dropOperand e.1)) ++
  (m.lines.filter fun e => e.2.timer.any fun k => decide (k ≤ m.now)).map fun e => .debounceEnd (lineOperand e.1)

/-- A drop is eligible for a decision: UP, a request queued, no call in flight naming it (R87). -/
abbrev eligibleDrop (p : Part) (i : Nat) : Prop :=
  i < 96 ∧ (p.drop i).state = .up ∧ (p.drop i).queue ≠ [] ∧ ∀ e ∈ p.main.calls, e.2.drop ≠ i

end Sys2Proof.Safety
end

