-- ==== Sys2Proof/Certificates/Slice0/Obligations.lean ====
section
/-! DEFINITION. Certificates/Slice0/Obligations.lean: the statements about the part, from the rules of its manual. -/

open Sys2Proof Sys2Proof.Machine Sys2Proof.Safety

/-! ## The queue and the wells -/

/-- A step takes the command at the front of the queue and runs it on the part with the queue's rest. -/
def Obligations.StepTakesFrontCommand : Prop :=
  ∀ (c : Instr) (s : State) (rest : List Instr), s.pending = c :: rest → step s = exec c { s with pending := rest }

/-- Every command is taken: it answers a next state and leaves the queue as it is. With no command waiting, a RUNNING
part takes the first event that is due, else a decision while a drop is eligible, else lets 0.1 s of service time pass
(1.6.2), and a part that is not RUNNING stays as it is. That a step with no command waiting does this, and the order of
events due at one moment, is the model's choice (log 3). -/
def Obligations.EveryCommandIsTaken : Prop :=
  (∀ (c : Instr) (s : State), ∃ t, exec c s = .next t ∧ t.pending = s.pending) ∧
  ∀ s : State, s.pending = [] →
    ((∀ m, s.well ≠ .running m) → step s = .next s) ∧
    ∀ m, s.well = .running m →
      (∀ c, (dueNow m).head? = some c → step s = exec c s) ∧
      (dueNow m = [] → (∃ i, eligibleDrop (partOf s m) i) → step s = exec .decision s) ∧
      (dueNow m = [] → (∀ i, ¬eligibleDrop (partOf s m) i) →
        step s = .next { s with well := .running { m with now := m.now + 1 } })

/-- No command but the power events and the end of a reply moves a pin, a well's state, or the service time. -/
def Obligations.OnlyPowerEventsMoveTheWells : Prop :=
  ∀ (c : Instr) (s t : State), movesWell c = false → exec c s = .next t →
    t.mainOk = s.mainOk ∧ t.resetReleased = s.resetReleased ∧ t.retentionSupply = s.retentionSupply ∧
    t.ret.intact = s.ret.intact ∧
    (s.well = .off → t.well = .off) ∧ (s.well = .qualifying → t.well = .qualifying) ∧
    ∀ m, s.well = .running m → ∃ m', t.well = .running m' ∧ m'.now = m.now

/-- In OFF and QUALIFYING every frame, line change and event of the main well is lost, and the attention line is
released. -/
def Obligations.EventsAreLostWhileTheMainWellIsOff : Prop :=
  ∀ (c : Instr) (s : State), s.well = .off ∨ s.well = .qualifying →
    State.attentionLine s = false ∧ (takenWhileOff c = false → exec c s = .next s)

/-! ## The management link -/

/-- A command taken in READY is answered, once, with its own kind and tag; a malformed body is answered BAD_VALUE; a
command that is not answered DONE changes nothing and has no results. -/
def Obligations.CommandsAreAnswered : Prop :=
  ∀ (c : Instr) (s : State) (m : Main) (kind tag : Byte) (bad : Bool),
    heading c = some (kind, tag, bad) → Ready s m →
    ∃ (q : Part) (st : Status) (res : Results),
      exec c s = .next (s.withPart q) ∧ q.main.mgmt = .replying ⟨kind, tag, st, res⟩ ∧
      (bad = true → st = .badValue) ∧
      (st ≠ .done → res = .nothing ∧ q = ⟨s.ret, heard m ⟨kind, tag, st, .nothing⟩⟩)

/-- A well-checked command frame that arrives during a reply changes nothing but the overrun record, whether its kind
names a command or not; so does COMMAND_DURING_REPLY. -/
def Obligations.FramesDuringAReplyAreCounted : Prop :=
  ∀ (c : Instr) (s : State) (m : Main) (r : Reply) (tag : Byte),
    s.well = .running m → m.mgmt = .replying r →
    ((∃ kind bad, heading c = some (kind, tag, bad)) ∨
      (∃ kind, namesCommand kind = false ∧ c = .unknownCommand kind tag) ∨ c = .commandDuringReply tag) →
    exec c s = .next (s.withPart ⟨s.ret, { listening m with
      overrun := some (match m.overrun with
        | none => ⟨tag, tag, 1⟩
        | some o => ⟨o.first, tag, min (o.count + 1) 255⟩) }⟩)

/-- An unknown kind is answered NOT_READY. A discarded frame ends with no other effect, a start byte begins one, and the
2 ms gap ends the one being received: on the dispatcher and management links with no other effect. That
UNSOLICITED_PANEL_FRAME is discarded also while a poll is outstanding is the model's reading (log 13); that the gap changes
nothing while the receiver hunts is its choice (log 6, log 24); so is the late mark of a panel link, which goes with the
end of the frame (log 31). -/
def Obligations.FramesWithoutEffect : Prop :=
  (∀ (s : State) (m : Main) (kind tag : Byte), Ready s m → namesCommand kind = false →
    refusedWith (.unknownCommand kind tag) s m kind tag .notReady) ∧
  ∀ (s : State) (m : Main), s.well = .running m →
    exec .managementFrameDiscarded s = .next (s.withPart ⟨s.ret, listening m⟩) ∧
    exec .dispatcherFrameDiscarded s =
      .next (s.withPart ⟨s.ret, { m with receiving := setPut m.receiving 6 false }⟩) ∧
    (∀ link : Fin 6, exec (.unsolicitedPanelFrame link) s =
      .next (s.withPart ⟨s.ret, { m with
        receiving := setPut m.receiving link.val false, late := setPut m.late link.val false }⟩)) ∧
    (∀ wire : Wire, exec (.frameStart wire) s =
      .next (s.withPart ⟨s.ret, { m with receiving := setPut m.receiving (wireIndex wire) true }⟩)) ∧
    (∀ wire : Wire, inSet m.receiving (wireIndex wire) = false → exec (.frameGapTimeout wire) s = .next s) ∧
    (∀ wire : Wire, wire = .dispatcher ∨ wire = .management → inSet m.receiving (wireIndex wire) = true →
      exec (.frameGapTimeout wire) s =
        .next (s.withPart ⟨s.ret, { m with receiving := setPut m.receiving (wireIndex wire) false }⟩))

/-- RESTART is answered DONE and stops nothing yet; the main stop is taken when its reply has been sent, and with the
start condition holding qualification begins at once. When any other reply has been sent, the link is READY with an empty
record, or the OVERRUN reply for the record begins and the record becomes empty. What becomes of the retention well when no
supply takes it over is the model's reading (log 10), and so is that qualification begins in the same step (log 12). -/
def Obligations.RepliesAreSentAndRestartStops : Prop :=
  ((∀ (s : State) (m : Main) (tag : Byte), Ready s m →
      doneWith (.restart tag (.read ())) s s.ret (listening m) 0x34 tag .nothing) ∧
    ∀ (s : State) (m : Main) (tag : Byte), s.well = .running m → m.mgmt = .replying ⟨0x34, tag, .done, .nothing⟩ →
      exec .replySent s = .next { s with
        ret := { s.ret with intact := s.ret.intact && s.retentionSupply }
        well := if s.mainOk && s.resetReleased then .qualifying else .off }) ∧
  ∀ (s : State) (m : Main) (r : Reply), s.well = .running m → m.mgmt = .replying r →
    (r.kind ≠ 0x34 ∨ r.status ≠ .done) →
    exec .replySent s = .next (s.withPart ⟨s.ret, { m with
      mgmt := (match m.overrun with
        | none => .ready
        | some o => .replying ⟨0, o.first, .overrun, .overrun o.last (byte o.count)⟩)
      overrun := none }⟩)

/-! ## Credentials -/

/-- CRED_ENROL inserts the record of a well-formed image, ACTIVE, or EXHAUSTED with a quota of 0, no trip reserved, and
counts it in its tenant. Of its checks, the first that fails gives the refusal: the image, a record present, a call in
flight, its tenant, a full table. -/
def Obligations.EnrolmentAddsARecord : Prop :=
  (∀ (s : State) (m : Main) (tag : Byte) (i : CredImage) (st : CredState), Ready s m →
      imageOk i = true → credAt s.ret i.badge = none → (∀ e ∈ m.calls, e.2.badge ≠ some i.badge) →
      (i.tenant = 0 ∨ ∃ r, tenantAt s.ret i.tenant = some r ∧ r.state ≠ .purging) →
      s.ret.creds.length < Config.credentials → st = (if i.quota = some 0 then .exhausted else .active) →
      ∃ r : Retention, doneWith (.credEnrol tag (.read i)) s r (listening m) 0x01 tag (.credState st) ∧
        r = { s.ret with creds := r.creds, tenants := r.tenants } ∧
        credAt r i.badge = some (recordOf i st false) ∧
        (∀ b, b ≠ i.badge → credAt r b = credAt s.ret b) ∧
        ∀ t, tenantAt r t = (tenantAt s.ret t).map fun v =>
          { v with count := v.count + if t = i.tenant ∧ t ≠ 0 then 1 else 0 }) ∧
  ∀ (s : State) (m : Main) (tag : Byte) (i : CredImage), Ready s m →
    refusedInOrder (.credEnrol tag (.read i)) s m 0x01 tag (enrolChecks s.ret m i)

/-- CRED_AMEND replaces the fields of a record but its reservation, derives its state afresh, moves its place in the
tenants' counts, and removes the badge's tickets when it leaves the record naming a tenant that is not LIVE. Of its checks,
the first that fails gives the refusal: the badge, the record, the image, a FREE tenant, a PURGING one, a reserved trip. -/
def Obligations.AmendmentReplacesARecord : Prop :=
  (∀ (s : State) (m : Main) (tag : Byte) (i : CredImage) (c : Cred) (st : CredState), Ready s m →
      imageOk i = true → credAt s.ret i.badge = some c →
      (i.tenant = 0 ∨ ∃ r, tenantAt s.ret i.tenant = some r ∧ r.state ≠ .purging) →
      (c.tenant = 0 ∨ ∀ r, tenantAt s.ret c.tenant = some r → r.state ≠ .purging) →
      (c.reserved = true → i.quota ≠ none ∧ i.quota ≠ some 0) →
      st = (if c.state = .suspended then .suspended else if i.quota = some 0 then .exhausted else .active) →
      ∃ r : Retention,
        doneWith (.credAmend tag (.read i)) s r { listening m with
            tickets :=
              if i.tenant = 0 ∨ (tenantAt s.ret i.tenant).map Tenant.state = some .live then m.tickets
              else m.tickets.filter fun t => decide (t.badge ≠ i.badge) } 0x02 tag (.credState st) ∧
        r = { s.ret with creds := r.creds, tenants := r.tenants } ∧
        credAt r i.badge = some (recordOf i st c.reserved) ∧
        (∀ b, b ≠ i.badge → credAt r b = credAt s.ret b) ∧
        ∀ t, tenantAt r t = (tenantAt s.ret t).map fun v =>
          { v with count :=
              if c.tenant = i.tenant ∨ t = 0 then v.count
              else if t = c.tenant then v.count - 1
              else if t = i.tenant then v.count + 1
              else v.count }) ∧
  ∀ (s : State) (m : Main) (tag : Byte) (i : CredImage), Ready s m →
    refusedInOrder (.credAmend tag (.read i)) s m 0x02 tag (amendChecks s.ret i)

/-- CRED_SUSPEND makes a record SUSPENDED and removes its badge's tickets. CRED_REINSTATE makes a SUSPENDED record
EXHAUSTED with a quota of 0, else ACTIVE, restores no ticket, and is refused on any other record. A badge that is no key is
answered BAD_VALUE, then one without a record NOT_FOUND. -/
def Obligations.SuspensionAndReinstatement : Prop :=
  (∀ (s : State) (m : Main) (tag : Byte) (b : Badge) (c : Cred), Ready s m →
      badgeKey b = true → credAt s.ret b = some c →
      (∃ r : Retention,
        doneWith (.credSuspend tag (.read b)) s r
          { listening m with tickets := m.tickets.filter fun t => decide (t.badge ≠ b) } 0x03 tag (.credState .suspended) ∧
        r = { s.ret with creds := r.creds } ∧
        credAt r b = some { c with state := .suspended } ∧ ∀ b', b' ≠ b → credAt r b' = credAt s.ret b') ∧
      (c.state = .suspended → ∀ st, st = (if c.quota = some 0 then CredState.exhausted else .active) →
        ∃ r : Retention, doneWith (.credReinstate tag (.read b)) s r (listening m) 0x04 tag (.credState st) ∧
          r = { s.ret with creds := r.creds } ∧
          credAt r b = some { c with state := st } ∧ ∀ b', b' ≠ b → credAt r b' = credAt s.ret b') ∧
      (c.state ≠ .suspended → refusedWith (.credReinstate tag (.read b)) s m 0x04 tag .wrongState)) ∧
  ∀ (s : State) (m : Main) (tag : Byte) (b : Badge), Ready s m →
    refusedInOrder (.credSuspend tag (.read b)) s m 0x03 tag (badgeChecks s.ret b) ∧
    refusedInOrder (.credReinstate tag (.read b)) s m 0x04 tag (reinstateChecks s.ret b)

/-- CRED_RETIRE removes a record with its tickets and lowers its tenant's count. A badge that is no key is answered
BAD_VALUE, then one without a record NOT_FOUND. -/
def Obligations.RetirementRemovesARecord : Prop :=
  (∀ (s : State) (m : Main) (tag : Byte) (b : Badge) (c : Cred), Ready s m →
      badgeKey b = true → credAt s.ret b = some c →
      ∃ r : Retention,
        doneWith (.credRetire tag (.read b)) s r
          { listening m with tickets := m.tickets.filter fun t => decide (t.badge ≠ b) } 0x05 tag .nothing ∧
        r = { s.ret with creds := r.creds, tenants := r.tenants } ∧
        credAt r b = none ∧ (∀ b', b' ≠ b → credAt r b' = credAt s.ret b') ∧
        ∀ t, tenantAt r t = (tenantAt s.ret t).map fun v =>
          { v with count := v.count - if t = c.tenant ∧ t ≠ 0 then 1 else 0 }) ∧
  ∀ (s : State) (m : Main) (tag : Byte) (b : Badge), Ready s m →
    refusedInOrder (.credRetire tag (.read b)) s m 0x05 tag (badgeChecks s.ret b)

/-- QUOTA_RELOAD sets a remaining count from 0 to 255 and derives the state: SUSPENDED is kept, 0 is EXHAUSTED, else
ACTIVE. Of its checks, the first that fails gives the refusal: the badge, the record, a count above 255, a count of 0 with
a trip reserved. -/
def Obligations.QuotaReloadSetsTheCount : Prop :=
  (∀ (s : State) (m : Main) (tag : Byte) (f : QuotaFields) (c : Cred) (st : CredState), Ready s m →
      badgeKey f.badge = true → credAt s.ret f.badge = some c → f.remaining.toNat ≤ 255 →
      (c.reserved = true → f.remaining ≠ 0) →
      st = (if c.state = .suspended then .suspended else if f.remaining = 0 then .exhausted else .active) →
      ∃ r : Retention,
        doneWith (.quotaReload tag (.read f)) s r (listening m) 0x06 tag (.quota st (byte f.remaining.toNat)) ∧
        r = { s.ret with creds := r.creds } ∧
        credAt r f.badge = some { c with quota := some (byte f.remaining.toNat), state := st } ∧
        ∀ b, b ≠ f.badge → credAt r b = credAt s.ret b) ∧
  ∀ (s : State) (m : Main) (tag : Byte) (f : QuotaFields), Ready s m →
    refusedInOrder (.quotaReload tag (.read f)) s m 0x06 tag (reloadChecks s.ret f)

/-- CRED_READ returns the record of a badge; a badge that is no key is answered BAD_VALUE, then one without a record
NOT_FOUND. CRED_NEXT returns the record with the least badge greater than the one given, and is answered NOT_FOUND when
there is none. Neither changes anything. -/
def Obligations.CredentialReads : Prop :=
  ∀ (s : State) (m : Main) (tag : Byte) (b : Badge), Ready s m → RetentionTables s.ret →
    (∀ c, badgeKey b = true → credAt s.ret b = some c →
      doneWith (.credRead tag (.read b)) s s.ret (listening m) 0x07 tag (.cred b c)) ∧
    (∀ b' c, b < b' → credAt s.ret b' = some c → (∀ d, b < d → d < b' → credAt s.ret d = none) →
      doneWith (.credNext tag (.read b)) s s.ret (listening m) 0x08 tag (.cred b' c)) ∧
    refusedInOrder (.credRead tag (.read b)) s m 0x07 tag (badgeChecks s.ret b) ∧
    ((∀ d, b < d → credAt s.ret d = none) → refusedWith (.credNext tag (.read b)) s m 0x08 tag .notFound)

/-! ## Tenants and overlays -/

/-- TENANT_CREATE makes a FREE entry LIVE with the given grants and a count of 0; TENANT_FLOORS replaces the grants of a
tenant that is not PURGING and that no slot names. No other entry changes. Of the checks of each, the first that fails
gives the refusal. -/
def Obligations.TenantsCreatedAndChanged : Prop :=
  (∀ (s : State) (m : Main) (tag : Byte) (f : TenantFields), Ready s m →
      f.tenant ≠ 0 → grantListOk f.grants = true →
      (tenantAt s.ret f.tenant = none →
        ∃ r : Retention, doneWith (.tenantCreate tag (.read f)) s r (listening m) 0x09 tag .nothing ∧
          r = { s.ret with tenants := r.tenants } ∧ tenantAt r f.tenant = some ⟨.live, f.grants, 0⟩ ∧
          ∀ t, t ≠ f.tenant → tenantAt r t = tenantAt s.ret t) ∧
      (∀ v, tenantAt s.ret f.tenant = some v → v.state ≠ .purging → (∀ e ∈ m.overlays, e.2.tenant ≠ f.tenant) →
        ∃ r : Retention, doneWith (.tenantFloors tag (.read f)) s r (listening m) 0x0A tag .nothing ∧
          r = { s.ret with tenants := r.tenants } ∧ tenantAt r f.tenant = some { v with grants := f.grants } ∧
          ∀ t, t ≠ f.tenant → tenantAt r t = tenantAt s.ret t)) ∧
  ∀ (s : State) (m : Main) (tag : Byte) (f : TenantFields), Ready s m →
    refusedInOrder (.tenantCreate tag (.read f)) s m 0x09 tag (createChecks s.ret f) ∧
    refusedInOrder (.tenantFloors tag (.read f)) s m 0x0A tag (floorsChecks s.ret m f)

/-- TENANT_SUSPEND makes a tenant SUSPENDED and removes its credentials' tickets; TENANT_REINSTATE makes it LIVE;
TENANT_PURGE makes it PURGING and starts the walker before the lowest badge. Of the checks of each, the first that fails
gives the refusal; a running walker refuses BUSY before the tenant's state is looked at. -/
def Obligations.TenantsSuspendedAndPurged : Prop :=
  (∀ (s : State) (m : Main) (tag : Byte) (t : Byte) (v : Tenant), Ready s m → t ≠ 0 → tenantAt s.ret t = some v →
      (v.state ≠ .purging →
        ∃ r : Retention,
          doneWith (.tenantSuspend tag (.read t)) s r { listening m with
            tickets := m.tickets.filter fun k => decide ((credAt s.ret k.badge).map Cred.tenant ≠ some t) } 0x0B tag .nothing ∧
          r = { s.ret with tenants := r.tenants } ∧ tenantAt r t = some { v with state := .suspended } ∧
          ∀ t', t' ≠ t → tenantAt r t' = tenantAt s.ret t') ∧
      (v.state = .suspended →
        ∃ r : Retention, doneWith (.tenantReinstate tag (.read t)) s r (listening m) 0x0C tag .nothing ∧
          r = { s.ret with tenants := r.tenants } ∧ tenantAt r t = some { v with state := .live } ∧
          ∀ t', t' ≠ t → tenantAt r t' = tenantAt s.ret t') ∧
      (v.state = .suspended → s.ret.purge.running = false → (∀ e ∈ m.overlays, e.2.tenant ≠ t) →
        ∃ r : Retention, doneWith (.tenantPurge tag (.read t)) s r (listening m) 0x0D tag .nothing ∧
          r = { s.ret with tenants := r.tenants, purge := ⟨true, t, 0⟩ } ∧ tenantAt r t = some { v with state := .purging } ∧
          ∀ t', t' ≠ t → tenantAt r t' = tenantAt s.ret t')) ∧
  ∀ (s : State) (m : Main) (tag t : Byte), Ready s m →
    refusedInOrder (.tenantSuspend tag (.read t)) s m 0x0B tag (suspendChecks s.ret t) ∧
    refusedInOrder (.tenantReinstate tag (.read t)) s m 0x0C tag (restoreChecks s.ret t) ∧
    refusedInOrder (.tenantPurge tag (.read t)) s m 0x0D tag (purgeChecks s.ret m t)

/-- An IDLE purge walker makes no visit. A visit of a RUNNING one: with a count of 0 or no greater badge the walk ends,
the entry is FREE and PURGE_DONE is set; else the least greater badge is visited, its record is retired exactly when it
names the tenant, and the position moves to it. That the IDLE walker keeps the tenant of the walk that ended is the model's
choice (log 25). -/
def Obligations.PurgeVisitTakesOneRecord : Prop :=
  (∀ (s : State) (m : Main), s.well = .running m → s.ret.purge.running = false → exec .purgeVisit s = .next s) ∧
  ∀ (s : State) (m : Main) (v : Tenant), s.well = .running m → RetentionTables s.ret →
    s.ret.purge.running = true → tenantAt s.ret s.ret.purge.tenant = some v →
    (v.count = 0 ∨ (∀ b : Badge, s.ret.purge.position < b.toNat → credAt s.ret b = none) →
      ∃ r : Retention, exec .purgeVisit s = .next (s.withPart ⟨r, { m with purgeDone := true }⟩) ∧
        r = { s.ret with tenants := r.tenants, purge := ⟨false, s.ret.purge.tenant, 0⟩ } ∧
        tenantAt r s.ret.purge.tenant = none ∧
        ∀ t, t ≠ s.ret.purge.tenant → tenantAt r t = tenantAt s.ret t) ∧
    (∀ (b : Badge) (c : Cred), v.count ≠ 0 → s.ret.purge.position < b.toNat → credAt s.ret b = some c →
      (∀ d : Badge, s.ret.purge.position < d.toNat → d < b → credAt s.ret d = none) →
      (c.tenant ≠ s.ret.purge.tenant →
        exec .purgeVisit s =
          .next (s.withPart ⟨{ s.ret with purge := { s.ret.purge with position := b.toNat } }, m⟩)) ∧
      (c.tenant = s.ret.purge.tenant →
        ∃ r : Retention,
          exec .purgeVisit s =
            .next (s.withPart ⟨r, { m with tickets := m.tickets.filter fun t => decide (t.badge ≠ b) }⟩) ∧
          r = { s.ret with
            creds := r.creds, tenants := r.tenants, purge := { s.ret.purge with position := b.toNat } } ∧
          credAt r b = none ∧ (∀ d, d ≠ b → credAt r d = credAt s.ret d) ∧
          ∀ t, tenantAt r t = (tenantAt s.ret t).map fun w =>
            { w with count := w.count - if t = c.tenant ∧ t ≠ 0 then 1 else 0 }))

/-- OVERLAY_OPEN copies a tenant's grants into a FREE slot, OVERLAY_EDIT replaces a slot's grants, OVERLAY_APPLY gives it
a scope, OVERLAY_COMMIT writes its grants into its tenant and frees it, OVERLAY_DISCARD frees it. Of the checks of each, the
first that fails gives the refusal: the slot number first, a FREE slot last but for OVERLAY_OPEN. -/
def Obligations.OverlaySlots : Prop :=
  ((∀ (s : State) (m : Main) (tag : Byte) (f : OverlayOpenFields) (v : Tenant), Ready s m →
      f.slot.toNat < 2 → f.tenant ≠ 0 → Table.lookup m.overlays f.slot.toNat = none →
      tenantAt s.ret f.tenant = some v → v.state ≠ .purging → (∀ e ∈ m.overlays, e.2.tenant ≠ f.tenant) →
      ∃ ov, doneWith (.overlayOpen tag (.read f)) s s.ret { listening m with overlays := ov } 0x0F tag .nothing ∧
        Table.lookup ov f.slot.toNat = some ⟨f.tenant, v.grants, none⟩ ∧
        ∀ n, n ≠ f.slot.toNat → Table.lookup ov n = Table.lookup m.overlays n) ∧
    ∀ (s : State) (m : Main) (tag slot : Byte) (o : Overlay), Ready s m →
      slot.toNat < 2 → Table.lookup m.overlays slot.toNat = some o →
      (∀ gs, grantListOk gs = true →
        ∃ ov, doneWith (.overlayEdit tag (.read ⟨slot, gs⟩)) s s.ret { listening m with overlays := ov } 0x10 tag .nothing ∧
          Table.lookup ov slot.toNat = some { o with grants := gs } ∧
          ∀ n, n ≠ slot.toNat → Table.lookup ov n = Table.lookup m.overlays n) ∧
      (∀ (code : Byte) (scope : Scope), Scope.ofCode code = some scope →
        ∃ ov, doneWith (.overlayApply tag (.read ⟨slot, code⟩)) s s.ret { listening m with overlays := ov } 0x11 tag .nothing ∧
          Table.lookup ov slot.toNat = some { o with scope := some scope } ∧
          ∀ n, n ≠ slot.toNat → Table.lookup ov n = Table.lookup m.overlays n) ∧
      (∃ r ov, doneWith (.overlayCommit tag (.read slot)) s r { listening m with overlays := ov } 0x12 tag .nothing ∧
        r = { s.ret with tenants := r.tenants } ∧
        (∀ t, tenantAt r t = (tenantAt s.ret t).map fun v => if t = o.tenant then { v with grants := o.grants } else v) ∧
        Table.lookup ov slot.toNat = none ∧ ∀ n, n ≠ slot.toNat → Table.lookup ov n = Table.lookup m.overlays n) ∧
      (∃ ov, doneWith (.overlayDiscard tag (.read slot)) s s.ret { listening m with overlays := ov } 0x13 tag .nothing ∧
        Table.lookup ov slot.toNat = none ∧ ∀ n, n ≠ slot.toNat → Table.lookup ov n = Table.lookup m.overlays n)) ∧
  ∀ (s : State) (m : Main) (tag slot : Byte), Ready s m →
    (∀ f, refusedInOrder (.overlayOpen tag (.read f)) s m 0x0F tag (openChecks s.ret m f)) ∧
    (∀ gs, refusedInOrder (.overlayEdit tag (.read ⟨slot, gs⟩)) s m 0x10 tag (slotChecks m slot (grantListOk gs))) ∧
    (∀ code, refusedInOrder (.overlayApply tag (.read ⟨slot, code⟩)) s m 0x11 tag
      (slotChecks m slot (Scope.ofCode code).isSome)) ∧
    refusedInOrder (.overlayCommit tag (.read slot)) s m 0x12 tag (slotChecks m slot true) ∧
    refusedInOrder (.overlayDiscard tag (.read slot)) s m 0x13 tag (slotChecks m slot true)

/-! ## Calendar, schedules, parameters, sweep -/

/-- One second of the retention time base, in any state of the main well: the second, the minute and the day with their
carries, the sweep triggered by a rollover, and the end of the calendar at day 65535. MINUTE_ADVANCE and DAY_ROLLOVER are
the same second named by the carry it makes, and nothing where it makes none (log 5). An INVALID calendar, or one of a lost
well, does not advance. -/
def Obligations.CalendarAdvances : Prop :=
  ∀ (s : State) (day : Half) (minute second : Nat),
    (s.ret.intact = false ∨ s.ret.calendar.valid = false →
      exec .secondAdvance s = .next s ∧ exec .minuteAdvance s = .next s ∧ exec .dayRollover s = .next s) ∧
    (s.ret.intact = true → s.ret.calendar = ⟨true, day, minute, second⟩ →
      (second < 59 ∨ minute < 1439 → exec .dayRollover s = .next s) ∧
      (second < 59 → exec .minuteAdvance s = .next s) ∧
      (second < 59 →
        exec .secondAdvance s = .next { s with ret := { s.ret with calendar := ⟨true, day, minute, second + 1⟩ } }) ∧
      (second = 59 → minute < 1439 → ∀ c, c = .secondAdvance ∨ c = .minuteAdvance →
        exec c s = .next { s with ret := { s.ret with calendar := ⟨true, day, minute + 1, 0⟩ } }) ∧
      (second = 59 → minute = 1439 → day ≠ 65535#16 → ∀ c, c = .secondAdvance ∨ c = .minuteAdvance ∨ c = .dayRollover →
        exec c s = .next { s with ret := { s.ret with
          calendar := ⟨true, day + 1, 0, 0⟩
          sweep := { s.ret.sweep with
            running := true, day := day + 1, position := 0
            count := if s.ret.sweep.running then s.ret.sweep.count else 0 } } }) ∧
      (second = 59 → minute = 1439 → day = 65535#16 → ∀ c, c = .secondAdvance ∨ c = .minuteAdvance ∨ c = .dayRollover →
        exec c s = .next { s with ret := { s.ret with calendar := ⟨false, 65535#16, 1439, 59⟩ } }))

/-- CAL_SET makes the calendar VALID at the given day and minute, second 0, triggers the sweep when it was INVALID or the
day differs, and returns it with the day type of the day. HOLIDAY_SET replaces a strictly ascending list of at most 32
days, SCHED_SET one schedule's windows, PARAM_SET one parameter in its range. Each is refused BAD_VALUE otherwise. -/
def Obligations.CalendarUnitIsSet : Prop :=
  (∀ (s : State) (m : Main) (tag : Byte) (f : CalFields), Ready s m →
      (1439 < f.minute.toNat → refusedWith (.calSet tag (.read f)) s m 0x15 tag .badValue) ∧
      (f.minute.toNat ≤ 1439 →
        doneWith (.calSet tag (.read f)) s
          { s.ret with
            calendar := ⟨true, f.day, f.minute.toNat, 0⟩
            sweep :=
              if s.ret.calendar.valid = false ∨ f.day ≠ s.ret.calendar.day then
                { s.ret.sweep with
                  running := true, day := f.day, position := 0
                  count := if s.ret.sweep.running then s.ret.sweep.count else 0 }
              else s.ret.sweep }
          (listening m) 0x15 tag
          (.calendarSet ⟨true, f.day, f.minute.toNat, 0⟩ (some (dayTypeOf s.ret.holidays f.day))))) ∧
  ∀ (s : State) (m : Main) (tag : Byte), Ready s m →
    (∀ days, holidaysOk days = true →
      doneWith (.holidaySet tag (.read days)) s { s.ret with holidays := days } (listening m) 0x17 tag .nothing) ∧
    (∀ days, holidaysOk days = false → refusedWith (.holidaySet tag (.read days)) s m 0x17 tag .badValue) ∧
    (∀ f : SchedFields, f.schedule ≠ 0 → f.schedule.toNat ≤ 63 → windowListOk f.windows = true →
      ∃ t, doneWith (.schedSet tag (.read f)) s { s.ret with schedules := t } (listening m) 0x19 tag .nothing ∧
        Table.get [] t f.schedule.toNat = f.windows ∧
        ∀ n, n ≠ f.schedule.toNat → Table.get [] t n = Table.get [] s.ret.schedules n) ∧
    (∀ f : SchedFields, f.schedule = 0 ∨ 63 < f.schedule.toNat ∨ windowListOk f.windows = false →
      refusedWith (.schedSet tag (.read f)) s m 0x19 tag .badValue) ∧
    (∀ (f : ParamFields) (k : Param), Param.ofCode f.parameter = some k →
      k.range.1 ≤ f.value.toNat → f.value.toNat ≤ k.range.2 →
      ∃ v, doneWith (.paramSet tag (.read f)) s { s.ret with params := v } (listening m) 0x1B tag .nothing ∧
        v.value k = f.value.toNat ∧ ∀ k', k' ≠ k → v.value k' = s.ret.params.value k') ∧
    (∀ (f : ParamFields), (∀ k, Param.ofCode f.parameter = some k → f.value.toNat < k.range.1 ∨ k.range.2 < f.value.toNat) →
      refusedWith (.paramSet tag (.read f)) s m 0x1B tag .badValue)

/-- A visit of a RUNNING sweep walker: with no greater badge the walk ends, its count is kept as the last one and
SWEEP_DONE is set; else the least greater badge is visited and its record retired exactly when its valid-to day and the
grace are less than the sweep day. -/
def Obligations.SweepVisitTakesOneRecord : Prop :=
  ∀ (s : State) (m : Main), s.well = .running m → RetentionTables s.ret →
    (s.ret.sweep.running = false → exec .sweepVisit s = .next s) ∧
    (s.ret.sweep.running = true →
      ((∀ b : Badge, s.ret.sweep.position < b.toNat → credAt s.ret b = none) →
        exec .sweepVisit s = .next (s.withPart ⟨{ s.ret with sweep := { s.ret.sweep with
          running := false, position := 0, count := 0, lastCount := s.ret.sweep.count } }, { m with sweepDone := true }⟩)) ∧
      (∀ (b : Badge) (c : Cred), s.ret.sweep.position < b.toNat → credAt s.ret b = some c →
        (∀ d : Badge, s.ret.sweep.position < d.toNat → d < b → credAt s.ret d = none) →
        ((∀ d, c.validTo = some d → s.ret.sweep.day.toNat ≤ d.toNat + s.ret.params.sweepGrace) →
          exec .sweepVisit s =
            .next (s.withPart ⟨{ s.ret with sweep := { s.ret.sweep with position := b.toNat } }, m⟩)) ∧
        (∀ d, c.validTo = some d → d.toNat + s.ret.params.sweepGrace < s.ret.sweep.day.toNat →
          ∃ r : Retention,
            exec .sweepVisit s =
              .next (s.withPart ⟨r, { m with tickets := m.tickets.filter fun t => decide (t.badge ≠ b) }⟩) ∧
            r = { s.ret with
              creds := r.creds, tenants := r.tenants
              sweep := { s.ret.sweep with position := b.toNat, count := min (s.ret.sweep.count + 1) 65535 } } ∧
            credAt r b = none ∧ (∀ d, d ≠ b → credAt r d = credAt s.ret d) ∧
            ∀ t, tenantAt r t = (tenantAt s.ret t).map fun w =>
              { w with count := w.count - if t = c.tenant ∧ t ≠ 0 then 1 else 0 })))

/-- A schedule is in force when it is 0, or the calendar is VALID and one of its windows holds today's day type and the
current minute; a day of the holiday list is HOL, any other the weekday of its remainder by 7. -/
def Obligations.SchedulesInForce : Prop :=
  ∀ (p : Part) (n : Byte) (days : List Half) (d : Half),
    (p.inForce n = true ↔ n = 0 ∨ p.ret.calendar.valid = true ∧
      ∃ w ∈ p.windowsOf n.toNat, inSet w.days (dayTypeOf p.ret.holidays p.ret.calendar.day).code = true ∧
        w.start.toNat ≤ p.ret.calendar.minute ∧ p.ret.calendar.minute < w.stop.toNat) ∧
    (d ∈ days → dayTypeOf days d = .hol) ∧
    (d ∉ days → some (dayTypeOf days d) = [DayType.mon, .tue, .wed, .thu, .fri, .sat, .sun][d.toNat % 7]?)

/-! ## The building map -/

/-- LANDING_SET gives every landing of a range a kind and no other landing. Taking SKY from a landing that a transfer entry
or a SKY drop uses is refused WRONG_STATE, after a range or kind that is none is refused BAD_VALUE. -/
def Obligations.LandingsAreSet : Prop :=
  (∀ (s : State) (m : Main) (tag : Byte) (f : LandingFields) (kind : LandingKind), Ready s m →
      f.low.toNat ≤ 127 → f.high.toNat ≤ 127 → f.low ≤ f.high → LandingKind.ofCode f.kind = some kind →
      (kind = .sky ∨ ((∀ e ∈ s.ret.transfers, f.low ≤ e.2.landing → e.2.landing ≤ f.high →
            Part.kindOf (partOf s m) e.2.landing ≠ .sky) ∧
          ∀ e ∈ s.ret.drops, e.2.kind = .sky → f.low ≤ e.2.landing → e.2.landing ≤ f.high →
            Part.kindOf (partOf s m) e.2.landing ≠ .sky) →
        ∃ t, doneWith (.landingSet tag (.read f)) s { s.ret with landings := t } (listening m) 0x1D tag .nothing ∧
          ∀ n : Nat, Table.get .closed t n =
            if f.low.toNat ≤ n ∧ n ≤ f.high.toNat then kind else Table.get .closed s.ret.landings n) ∧
      (kind ≠ .sky →
        (∃ e ∈ s.ret.transfers, f.low ≤ e.2.landing ∧ e.2.landing ≤ f.high ∧
          Part.kindOf (partOf s m) e.2.landing = .sky) ∨
        (∃ e ∈ s.ret.drops, e.2.kind = .sky ∧ f.low ≤ e.2.landing ∧ e.2.landing ≤ f.high ∧
          Part.kindOf (partOf s m) e.2.landing = .sky) →
        refusedWith (.landingSet tag (.read f)) s m 0x1D tag .wrongState)) ∧
  ∀ (s : State) (m : Main) (tag : Byte) (f : LandingFields), Ready s m →
    refusedInOrder (.landingSet tag (.read f)) s m 0x1D tag (landingChecks s.ret f)

/-- GROUP_SET configures a group and sends a MODE_NOTICE for one it configures, or whose recall landing it changes while
it is in RECALL; a frame that finds 64 frames in the send queue is discarded. GROUP_CLEAR makes a group that no transfer
entry and no drop names unconfigured and sends nothing. TRANSFER_SET writes an entry between two different groups that both
serve its SKY landing; TRANSFER_CLEAR empties a position. No other group or position changes. Of the checks of each, the
first that fails gives the refusal. -/
def Obligations.GroupsAndTransfersAreSet : Prop :=
  (((∀ (s : State) (m : Main) (tag : Byte) (f : GroupFields), Ready s m →
        f.group.toNat < 8 → rangesOk f.ranges = true → f.recallLanding.toNat ≤ 127 →
        inRanges f.ranges f.recallLanding = true →
        (∀ e ∈ s.ret.transfers, e.2.first = f.group ∨ e.2.second = f.group → inRanges f.ranges e.2.landing = true) →
        (∀ e ∈ s.ret.drops, inSet e.2.groups f.group.toNat = true → inRanges f.ranges e.2.landing = true) →
        ∃ t queue,
          doneWith (.groupSet tag (.read f)) s { s.ret with groups := t } { listening m with sendQueue := queue } 0x1F tag
            .nothing ∧
          Table.lookup t f.group.toNat = some ⟨f.ranges, f.recallLanding⟩ ∧
          (∀ n, n ≠ f.group.toNat → Table.lookup t n = Table.lookup s.ret.groups n) ∧
          queue =
            if (Table.lookup s.ret.groups f.group.toNat = none ∨
                Table.get .normal m.modes f.group.toNat = .recalled ∧
                (Table.lookup s.ret.groups f.group.toNat).map GroupEntry.recallLanding ≠ some f.recallLanding) ∧
                m.sendQueue.length < 64 then
              m.sendQueue ++ [.modeNotice f.group (Table.get .normal m.modes f.group.toNat) (some f.recallLanding)]
            else m.sendQueue) ∧
      ∀ (s : State) (m : Main) (tag g : Byte), Ready s m → g.toNat < 8 →
        (∀ e ∈ s.ret.transfers, e.2.first ≠ g ∧ e.2.second ≠ g) →
        (∀ e ∈ s.ret.drops, inSet e.2.groups g.toNat = false) →
        ∃ t, doneWith (.groupClear tag (.read g)) s { s.ret with groups := t } (listening m) 0x20 tag .nothing ∧
          Table.lookup t g.toNat = none ∧ ∀ n, n ≠ g.toNat → Table.lookup t n = Table.lookup s.ret.groups n) ∧
    (∀ (s : State) (m : Main) (tag : Byte) (f : TransferFields), Ready s m →
      f.position.toNat < 16 → f.first.toNat < 8 → f.second.toNat < 8 → f.landing.toNat ≤ 127 → f.first ≠ f.second →
      Part.kindOf (partOf s m) f.landing = .sky →
      Part.serves (partOf s m) f.first f.landing = true → Part.serves (partOf s m) f.second f.landing = true →
      ∃ t, doneWith (.transferSet tag (.read f)) s { s.ret with transfers := t } (listening m) 0x22 tag .nothing ∧
        Table.lookup t f.position.toNat = some ⟨f.first, f.landing, f.second⟩ ∧
        ∀ n, n ≠ f.position.toNat → Table.lookup t n = Table.lookup s.ret.transfers n) ∧
    ∀ (s : State) (m : Main) (tag n : Byte), Ready s m →
      (n.toNat < 16 →
        ∃ t, doneWith (.transferClear tag (.read n)) s { s.ret with transfers := t } (listening m) 0x23 tag .nothing ∧
          Table.lookup t n.toNat = none ∧ ∀ k, k ≠ n.toNat → Table.lookup t k = Table.lookup s.ret.transfers k) ∧
      (16 ≤ n.toNat → refusedWith (.transferClear tag (.read n)) s m 0x23 tag .badValue)) ∧
  ∀ (s : State) (m : Main) (tag : Byte), Ready s m →
    (∀ f, refusedInOrder (.groupSet tag (.read f)) s m 0x1F tag (groupChecks s.ret f)) ∧
    (∀ g, refusedInOrder (.groupClear tag (.read g)) s m 0x20 tag (clearChecks s.ret g)) ∧
    ∀ f, refusedInOrder (.transferSet tag (.read f)) s m 0x22 tag (transferChecks s.ret f)

/-- An accepted PANEL_SET writes or removes a drop's configuration and resets the drop: QUALIFYING or UNCONFIGURED, both
runs 0, holding nothing. While a poll is outstanding on the drop's link nothing else changes; with none outstanding the
link sends its next poll, and nothing else changes. A call in flight that names the drop refuses both forms WRONG_STATE. Of
its checks, the first that fails gives the refusal. -/
def Obligations.PanelSetResetsTheDrop : Prop :=
  (∀ (s : State) (m : Main) (tag drop : Byte) (fields : PanelFields) (config : Option DropConfig), Ready s m →
      drop.toNat < 96 →
      ((∃ (code landing : Byte) (groups : Set8) (kind : DropKind),
          fields = .configure drop code landing groups ∧ config = some ⟨kind, landing, groups⟩ ∧
          DropKind.ofCode code = some kind ∧ landing.toNat ≤ 127 ∧ groups ≠ 0 ∧
          (∀ g ∈ eight, inSet groups g = true → Part.serves (partOf s m) (byte g) landing = true) ∧
          (kind = .sky → Part.kindOf (partOf s m) landing = .sky)) ∨
        fields = .unconfigure drop ∧ config = none) →
        ((∃ e ∈ m.calls, e.2.drop = drop.toNat) →
          refusedWith (.panelSet tag (.read fields)) s m 0x25 tag .wrongState) ∧
        ((∀ e ∈ m.calls, e.2.drop ≠ drop.toNat) →
          ∃ p q : Part,
            exec (.panelSet tag (.read fields)) s = .next (s.withPart (q.reply ⟨0x25, tag, .done, .nothing⟩)) ∧
            p.ret = { s.ret with drops := p.ret.drops } ∧ p.main = { listening m with drops := p.main.drops } ∧
            Table.lookup p.ret.drops drop.toNat = config ∧
            (∀ n, n ≠ drop.toNat → Table.lookup p.ret.drops n = Table.lookup s.ret.drops n) ∧
            p.drop drop.toNat = .emptied (if config.isSome then .qualifying else .unconfigured) ∧
            (∀ n, n ≠ drop.toNat → p.drop n = Part.drop (partOf s m) n) ∧
            ((Part.panelLink (partOf s m) (drop.toNat / 16)).poll.isSome = true → q = p) ∧
            ((Part.panelLink (partOf s m) (drop.toNat / 16)).poll = none → NextPoll (drop.toNat / 16) p q) ∧
            (config.isSome = true → (q.panelLink (drop.toNat / 16)).poll.isSome = true))) ∧
  ∀ (s : State) (m : Main) (tag : Byte) (f : PanelFields), Ready s m →
    refusedInOrder (.panelSet tag (.read f)) s m 0x25 tag (panelChecks s.ret m f)

/-! ## Reads -/

/-- Every read of the retention well's tables is answered DONE with the values in force and changes nothing; a number that
names no tenant, slot, schedule, group or drop is answered BAD_VALUE, and a FREE tenant NOT_FOUND. -/
def Obligations.RetentionReads : Prop :=
  ∀ (s : State) (m : Main) (tag n : Byte), Ready s m →
    (∀ v, n ≠ 0 → tenantAt s.ret n = some v →
      doneWith (.tenantRead tag (.read n)) s s.ret (listening m) 0x0E tag
        (.tenant v (m.overlays.find? fun e => decide (e.2.tenant = n))
          (if v.state = .purging then some s.ret.purge.position else none))) ∧
    (n.toNat < 2 → doneWith (.overlayRead tag (.read n)) s s.ret (listening m) 0x14 tag
      (.overlay (Table.lookup m.overlays n.toNat))) ∧
    doneWith (.calRead tag (.read ())) s s.ret (listening m) 0x16 tag
      (.calendar s.ret.calendar
        (if s.ret.calendar.valid then some (dayTypeOf s.ret.holidays s.ret.calendar.day) else none)) ∧
    doneWith (.holidayRead tag (.read ())) s s.ret (listening m) 0x18 tag (.holidays s.ret.holidays) ∧
    (n ≠ 0 → n.toNat ≤ 63 → doneWith (.schedRead tag (.read n)) s s.ret (listening m) 0x1A tag
      (.windows (Table.get [] s.ret.schedules n.toNat))) ∧
    doneWith (.paramRead tag (.read ())) s s.ret (listening m) 0x1C tag (.params s.ret.params) ∧
    (∃ kinds, doneWith (.landingRead tag (.read ())) s s.ret (listening m) 0x1E tag (.landings kinds) ∧
      kinds.length = 128 ∧ ∀ l < 128, kinds[l]? = some (Table.get .closed s.ret.landings l)) ∧
    (n.toNat < 8 → doneWith (.groupRead tag (.read n)) s s.ret (listening m) 0x21 tag
      (.group (Table.lookup s.ret.groups n.toNat))) ∧
    (∃ list, doneWith (.transferRead tag (.read ())) s s.ret (listening m) 0x24 tag (.transfers list) ∧
      list.length = 16 ∧ ∀ k < 16, list[k]? = some (Table.lookup s.ret.transfers k)) ∧
    (n.toNat < 96 → doneWith (.panelRead tag (.read n)) s s.ret (listening m) 0x26 tag
      (.panel (Table.lookup s.ret.drops n.toNat) (Part.drop (partOf s m) n.toNat).state
        (m.calls.any fun e => decide (e.2.drop = n.toNat)))) ∧
    refusedInOrder (.tenantRead tag (.read n)) s m 0x0E tag (tenantChecks s.ret n) ∧
    (2 ≤ n.toNat → refusedWith (.overlayRead tag (.read n)) s m 0x14 tag .badValue) ∧
    (n = 0 ∨ 63 < n.toNat → refusedWith (.schedRead tag (.read n)) s m 0x1A tag .badValue) ∧
    (8 ≤ n.toNat → refusedWith (.groupRead tag (.read n)) s m 0x21 tag .badValue) ∧
    (96 ≤ n.toNat → refusedWith (.panelRead tag (.read n)) s m 0x26 tag .badValue)

/-- Every read of what the main well holds is answered DONE with the values of the step and changes nothing. TICKET_READ
and CALL_READ are answered NOT_FOUND for a badge without tickets, an ordinal not below the occupancy and a number without a
call; an operand that names no badge, ordinal, drop, group, slot or number is answered BAD_VALUE. -/
def Obligations.MainWellReads : Prop :=
  ∀ (s : State) (m : Main) (tag n : Byte), Ready s m →
    (∀ b, badgeKey b = true → (∃ t ∈ m.tickets, t.badge = b) →
      ∃ list, doneWith (.ticketRead tag (.read (.byBadge b))) s s.ret (listening m) 0x27 tag
          (.tickets m.now m.tickets.length list) ∧
        list.map TicketView.ticket = m.tickets.filter (fun t => decide (t.badge = b)) ∧
        ∀ v ∈ list, m.tickets[v.ordinal]? = some v.ticket) ∧
    (∀ b, badgeKey b = true → (∀ t ∈ m.tickets, t.badge ≠ b) →
      refusedWith (.ticketRead tag (.read (.byBadge b))) s m 0x27 tag .notFound) ∧
    (∀ (k : Half) (t : Ticket), k.toNat < 1024 → m.tickets[k.toNat]? = some t →
      doneWith (.ticketRead tag (.read (.byOrdinal k))) s s.ret (listening m) 0x27 tag
        (.tickets m.now m.tickets.length [⟨k.toNat, t⟩])) ∧
    (n.toNat < 96 → doneWith (.dropRead tag (.read n)) s s.ret (listening m) 0x28 tag
      (.drop (Part.drop (partOf s m) n.toNat)
        (match (Part.panelLink (partOf s m) (n.toNat / 16)).poll with
          | some k => decide (16 * (n.toNat / 16) + k.address = n.toNat)
          | none => false) m.now)) ∧
    doneWith (.alarmRead tag (.read ())) s s.ret (listening m) 0x2B tag
      (.alarms (eight.map fun k => {
        config := Table.get .defaults s.ret.lines k
        raw := (Table.get .quiet m.lines k).raw
        debounced := (Table.get .quiet m.lines k).debounced
        active := Part.lineActive (partOf s m) k
        timer := (Table.get .quiet m.lines k).timer
        status := inSet s.ret.lineStatus k
        demands := (Part.lineDemand (partOf s m) k).isSome
        raises := Part.lineRaises (partOf s m) k }) m.now) ∧
    (n.toNat < 8 → ∃ list, doneWith (.modeRead tag (.read n)) s s.ret (listening m) 0x2E tag
        (.modeOf (inSet s.ret.latches n.toNat) (Table.get .off m.marks n.toNat) list
          (Table.get .normal m.modes n.toNat)) ∧
      ∀ k mode, (k, mode) ∈ list ↔
        k < 8 ∧ ∃ gs, Part.lineDemand (partOf s m) k = some (mode, gs) ∧ inSet gs n.toNat = true) ∧
    doneWith (.attnRead tag (.read ())) s s.ret (listening m) 0x31 tag
      (.attention (Part.statuses (partOf s m)) m.enables) ∧
    doneWith (.statusRead tag (.read ())) s s.ret (listening m) 0x32 tag
      (.status {
        now := m.now
        credentials := s.ret.creds.length
        tenants := s.ret.tenants.length
        tickets := m.tickets.length
        calls := m.calls.length
        drops := (List.range 96).map fun i => (Part.drop (partOf s m) i).state
        link := m.link
        inService := m.inService
        modes := eight.map fun g => Table.get .normal m.modes g
        purge := if s.ret.purge.running then some (s.ret.purge.tenant, s.ret.purge.position) else none
        sweep := if s.ret.sweep.running then some (s.ret.sweep.day, s.ret.sweep.position, s.ret.sweep.count) else none
        lastSweep := s.ret.sweep.lastCount }) ∧
    (n.toNat < 32 → Table.lookup m.calls n.toNat = none →
      doneWith (.callRead tag (.read (.bySlot n))) s s.ret (listening m) 0x33 tag .slotFree) ∧
    (∀ c, n.toNat < 32 → Table.lookup m.calls n.toNat = some c →
      doneWith (.callRead tag (.read (.bySlot n))) s s.ret (listening m) 0x33 tag
        (.call n.toNat c ((Part.linkedTicket (partOf s m) ⟨c.number, n.toNat⟩).map Ticket.state) m.now)) ∧
    (∀ k slot c, k ≠ 0 → Part.callNumbered (partOf s m) k = some (slot, c) →
      doneWith (.callRead tag (.read (.byNumber k))) s s.ret (listening m) 0x33 tag
        (.call slot c ((Part.linkedTicket (partOf s m) ⟨c.number, slot⟩).map Ticket.state) m.now)) ∧
    (∀ k, k ≠ 0 → (∀ e ∈ m.calls, e.2.number ≠ k) →
      refusedWith (.callRead tag (.read (.byNumber k))) s m 0x33 tag .notFound) ∧
    (∀ b, b = 0 ∨ b = BitVec.allOnes 40 → refusedWith (.ticketRead tag (.read (.byBadge b))) s m 0x27 tag .badValue) ∧
    (∀ k : Half, 1024 ≤ k.toNat → refusedWith (.ticketRead tag (.read (.byOrdinal k))) s m 0x27 tag .badValue) ∧
    (∀ k : Half, k.toNat < 1024 → m.tickets.length ≤ k.toNat →
      refusedWith (.ticketRead tag (.read (.byOrdinal k))) s m 0x27 tag .notFound) ∧
    (96 ≤ n.toNat → refusedWith (.dropRead tag (.read n)) s m 0x28 tag .badValue) ∧
    (8 ≤ n.toNat → refusedWith (.modeRead tag (.read n)) s m 0x2E tag .badValue) ∧
    (32 ≤ n.toNat → refusedWith (.callRead tag (.read (.bySlot n))) s m 0x33 tag .badValue) ∧
    refusedWith (.callRead tag (.read (.byNumber 0))) s m 0x33 tag .badValue

/-! ## Alarm lines and modes -/

/-- ALARM_SET replaces a line's configuration, sets its status when it becomes active or turns from EDGE to LEVEL while
active, and recomputes every group; a configuration that is none is refused BAD_VALUE. ALARM_ACK clears the statuses of a
set of lines but those of active LEVEL lines, recomputes every group, and returns every status. A recomputing sends a
MODE_NOTICE for each mode that changes and, for a group that enters RECALL, ends its calls and removes its tickets. The
recomputing of all groups is the model's choice where no demand of theirs changed (log 21), and so is the refusal of an
enable, polarity, type or function byte that carries none of its codes (log 16). -/
def Obligations.AlarmLinesAreSetAndAcknowledged : Prop :=
  ∀ (s : State) (m : Main) (tag : Byte), Ready s m → MainTables m →
    (∀ (f : AlarmFields) (c : LineConfig), lineConfigOf f = some c →
      ∃ p q : Part, exec (.alarmSet tag (.read f)) s = .next (s.withPart (q.reply ⟨0x29, tag, .done, .nothing⟩)) ∧
        Recomputed eight p q ∧
        p.main = listening m ∧ p.ret = { s.ret with lines := p.ret.lines, lineStatus := p.ret.lineStatus } ∧
        p.lineConfig f.line.toNat = c ∧
        (∀ n, n ≠ f.line.toNat → p.lineConfig n = Part.lineConfig (partOf s m) n) ∧
        ∀ n < 8, inSet p.ret.lineStatus n = (inSet s.ret.lineStatus n ||
          (decide (n = f.line.toNat) && p.lineActive n &&
            (!Part.lineActive (partOf s m) n ||
              (decide ((Part.lineConfig (partOf s m) n).type = .edge) && decide (c.type = .level)))))) ∧
    (∀ f : AlarmFields, lineConfigOf f = none → refusedWith (.alarmSet tag (.read f)) s m 0x29 tag .badValue) ∧
    ∀ set : Set8, ∃ p q : Part,
      exec (.alarmAck tag (.read set)) s =
        .next (s.withPart (q.reply ⟨0x2A, tag, .done, .lineStatuses p.ret.lineStatus⟩)) ∧
      Recomputed eight p q ∧ p.main = listening m ∧ p.ret = { s.ret with lineStatus := p.ret.lineStatus } ∧
      ∀ n < 8, inSet p.ret.lineStatus n =
        if inSet set n then
          decide ((Part.lineConfig (partOf s m) n).type = .level) && Part.lineActive (partOf s m) n
        else inSet s.ret.lineStatus n

/-- MODE_DEMAND sets one mark of one group, GROUP_RESUME clears one latch; each recomputes the group and returns its mode.
GROUP_RESUME is refused DEMAND_ACTIVE while a RECALL demand is held, and changes nothing where no latch is set. Each is
refused BAD_VALUE for a group above 7, MODE_DEMAND also for a mode that is none and, by the model's reading (log 16), for a
flag byte above 1. -/
def Obligations.DemandsAndResume : Prop :=
  (∀ (s : State) (m : Main) (tag g : Byte), Ready s m → MainTables m → g.toNat < 8 →
      (∀ (code on : Byte) (mode : Mode) (value : Bool), demandMode code = some mode → flagOfCode on = some value →
        ∃ p q : Part,
          exec (.modeDemand tag (.read ⟨g, code, on⟩)) s =
            .next (s.withPart (q.reply ⟨0x2C, tag, .done, .mode (q.mode g.toNat)⟩)) ∧
          Recomputed [g.toNat] p q ∧ p.ret = s.ret ∧ p.main = { listening m with marks := p.main.marks } ∧
          (p.marksOf g.toNat).has mode = value ∧
          (∀ k, k ≠ mode → (p.marksOf g.toNat).has k = (Part.marksOf (partOf s m) g.toNat).has k) ∧
          ∀ n, n ≠ g.toNat → p.marksOf n = Part.marksOf (partOf s m) n) ∧
      (Part.holds (partOf s m) g.toNat .recalled = true →
        refusedWith (.groupResume tag (.read g)) s m 0x2D tag .demandActive) ∧
      (Part.holds (partOf s m) g.toNat .recalled = false → inSet s.ret.latches g.toNat = false →
        doneWith (.groupResume tag (.read g)) s s.ret (listening m) 0x2D tag (.mode (Part.mode (partOf s m) g.toNat))) ∧
      (Part.holds (partOf s m) g.toNat .recalled = false → inSet s.ret.latches g.toNat = true →
        ∃ p q : Part,
          exec (.groupResume tag (.read g)) s =
            .next (s.withPart (q.reply ⟨0x2D, tag, .done, .mode (q.mode g.toNat)⟩)) ∧
          Recomputed [g.toNat] p q ∧ p.main = listening m ∧ p.ret = { s.ret with latches := p.ret.latches } ∧
          ∀ n < 8, inSet p.ret.latches n = (inSet s.ret.latches n && decide (n ≠ g.toNat)))) ∧
  ∀ (s : State) (m : Main) (tag g : Byte), Ready s m →
    (∀ code on : Byte, 8 ≤ g.toNat ∨ demandMode code = none ∨ flagOfCode on = none →
      refusedWith (.modeDemand tag (.read ⟨g, code, on⟩)) s m 0x2C tag .badValue) ∧
    (8 ≤ g.toNat → refusedWith (.groupResume tag (.read g)) s m 0x2D tag .badValue)

/-- A RECALL demand of the station on a group that is not in RECALL sets its latch and mode, sends its MODE_NOTICE and then
one CALL_CANCEL for each of its calls in slot order, unwinds those calls with CANCELLED, and removes every ticket that
leads to the group. -/
def Obligations.RecallDemandCancelsTheGroup : Prop :=
  ∀ (s : State) (m : Main) (tag g : Byte), Ready s m → Inv s → g.toNat < 8 →
    Part.mode (partOf s m) g.toNat ≠ .recalled →
    m.sendQueue.length + 1 + (m.calls.filter fun e => decide (e.2.group = g)).length ≤ 64 →
    ∃ q : Part,
      exec (.modeDemand tag (.read ⟨g, 3, 1⟩)) s = .next (s.withPart (q.reply ⟨0x2C, tag, .done, .mode .recalled⟩)) ∧
      q.mode g.toNat = .recalled ∧ inSet q.ret.latches g.toNat = true ∧
      q.main.sendQueue = m.sendQueue ++
        DispatcherFrame.modeNotice g .recalled ((Table.lookup s.ret.groups g.toNat).map GroupEntry.recallLanding) ::
          (m.calls.filter fun e => decide (e.2.group = g)).map (fun e => .callCancel e.2.number) ∧
      q.main.calls = m.calls.filter (fun e => decide (e.2.group ≠ g)) ∧
      (∀ e ∈ m.calls, e.2.group = g → (Part.drop (partOf s m) e.2.drop).state = .up →
        (q.drop e.2.drop).answers = (Part.drop (partOf s m) e.2.drop).answers ++ [⟨.noService .cancelled, false⟩]) ∧
      (∀ t ∈ q.main.tickets, t.group ≠ g) ∧
      ∀ b, credAt q.ret b = (credAt s.ret b).map fun c =>
        if (m.calls.any fun e => decide (e.2.group = g) && e.2.charge && decide (e.2.badge = some b)) = true then
          { c with reserved := false }
        else c

/-- A change of a raw level starts the debounce timer, afresh where it runs, when the level differs from the debounced
one, and stops it when it equals it. With no debounce time, or when the timer has ended, the debounced level takes the raw
level: a line that becomes active has its status set and every group recomputed, and a line that becomes inactive keeps
its status. That DEBOUNCE_END does nothing before the end of its timer is the model's reading (log 4), and so is a change
that brings the level already held (log 32); the recomputing of all groups is its choice where no demand of theirs changed
(log 21). -/
def Obligations.LineLevelsAreDebounced : Prop :=
  ∀ (s : State) (m : Main) (n : Fin 8) (high : Bool) (l : LineLive) (time : Nat), s.well = .running m → MainTables m →
    l = Table.get .quiet m.lines n.val → time = (Table.get .defaults s.ret.lines n.val).debounce →
    (high = l.raw → high = l.debounced → l.timer = none → exec (.rawLevelChange n high) s = .next s) ∧
    (high = l.debounced →
      exec (.rawLevelChange n high) s = .next (s.withPart ⟨s.ret, { m with
        lines := Table.set .quiet m.lines n.val ⟨high, l.debounced, none⟩ }⟩)) ∧
    (high ≠ l.debounced → time ≠ 0 →
      exec (.rawLevelChange n high) s = .next (s.withPart ⟨s.ret, { m with
        lines := Table.set .quiet m.lines n.val ⟨high, l.debounced, some (m.now + time)⟩ }⟩)) ∧
    ((∀ e, l.timer = some e → m.now < e) → exec (.debounceEnd n) s = .next s) ∧
    (∀ (c : Instr) (level : Bool),
      (c = .rawLevelChange n high ∧ high ≠ l.debounced ∧ time = 0 ∧ level = high) ∨
        (c = .debounceEnd n ∧ (∃ e, l.timer = some e ∧ e ≤ m.now) ∧ level = l.raw) →
      ∃ p q : Part, exec c s = .next (s.withPart q) ∧
        p.main = { m with lines := Table.set .quiet m.lines n.val ⟨level, level, none⟩ } ∧
        (Part.lineActive (partOf s m) n.val = false ∧ p.lineActive n.val = true →
          p.ret = { s.ret with lineStatus := p.ret.lineStatus } ∧
          (∀ k < 8, inSet p.ret.lineStatus k = (inSet s.ret.lineStatus k || decide (k = n.val))) ∧
          Recomputed eight p q) ∧
        (¬(Part.lineActive (partOf s m) n.val = false ∧ p.lineActive n.val = true) → p.ret = s.ret ∧ q = p))

/-- A group's effective mode is RECALL while its latch is set, else the highest of the demands it holds, RECALL above
LOCKDOWN above OPEN, else NORMAL. A demand is held by the station's mark, or by an enabled DEMAND line whose status is
set and whose group set names the group. -/
def Obligations.EffectiveModeIsTheHighestDemand : Prop :=
  ∀ (p : Part) (g : Nat),
    (inSet p.ret.latches g = true → p.effectiveMode g = .recalled) ∧
    (inSet p.ret.latches g = false →
      (p.holds g .recalled = true → p.effectiveMode g = .recalled) ∧
      (p.holds g .recalled = false → p.holds g .lockdown = true → p.effectiveMode g = .lockdown) ∧
      (p.holds g .recalled = false → p.holds g .lockdown = false → p.holds g .opened = true →
        p.effectiveMode g = .opened) ∧
      (p.holds g .recalled = false → p.holds g .lockdown = false → p.holds g .opened = false →
        p.effectiveMode g = .normal)) ∧
    ∀ mode, p.holds g mode = true ↔ (p.marksOf g).has mode = true ∨
      ∃ n < 8, (p.lineConfig n).enabled = true ∧ inSet p.ret.lineStatus n = true ∧
        ∃ gs, (p.lineConfig n).function = .demand mode gs ∧ inSet gs g = true

/-! ## Attention -/

/-- ATTN_ACK clears the sticky statuses named in its set and leaves every level status as its cause gives it; ATTN_ENABLE
replaces the enables. Each returns every status and enable after the step. -/
def Obligations.AttentionIsAcknowledgedAndEnabled : Prop :=
  ∀ (s : State) (m : Main) (tag : Byte) (set : Half), Ready s m →
    (∃ q : Part,
      doneWith (.attnAck tag (.read set)) s q.ret q.main 0x2F tag (.attention q.statuses m.enables) ∧
      q.ret = { s.ret with retentionLost := q.ret.retentionLost } ∧
      q.main = { listening m with
        panelDown := q.main.panelDown, purgeDone := q.main.purgeDone
        sweepDone := q.main.sweepDone, poolFull := q.main.poolFull } ∧
      (∀ n < 11, q.attention n = Part.attention (partOf s m) n) ∧
      ∀ n, 11 ≤ n → n < 16 → q.attention n = (Part.attention (partOf s m) n && !inSet set n)) ∧
    doneWith (.attnEnable tag (.read set)) s s.ret { listening m with enables := set } 0x30 tag
      (.attention (Part.statuses (partOf s m)) set)

/-- The attention line is asserted exactly when a condition has both its status and its enable set, and is released while
the main well is stopped; with every enable set and the dispatcher link not UP it is asserted, as it is at the end of
every start sequence. -/
def Obligations.AttentionLineFollowsStatusAndEnable : Prop :=
  (∀ (s : State) (m : Main), s.well = .running m →
    (State.attentionLine s = true ↔
      ∃ n < 16, Part.attention (partOf s m) n = true ∧ inSet m.enables n = true) ∧
    (m.enables = 0xFFFF#16 → m.link ≠ .up → State.attentionLine s = true)) ∧
  (∀ s : State, (∀ m, s.well ≠ .running m) → State.attentionLine s = false) ∧
  ∀ (s t : State) (levels : Set8), s.well = .qualifying → exec (.startSequence levels) s = .next t →
    State.attentionLine t = true

/-! ## Decisions -/

/-- With no eligible drop a DECISION changes nothing. Else it is taken for the eligible drop met first in the scan that
starts after the position and comes to the position last; the position becomes that drop and its head request leaves its
queue. A drop is eligible when it is UP, its queue holds a request, and no call in flight names it. A decision that comes
to an answer appends it to the drop's answer list, sets TICKET_POOL_FULL where step 13 found the pool full, and changes
nothing else. -/
def Obligations.DecisionsAreScannedAndAnswered : Prop :=
  (∀ (s : State) (m : Main) (eligible : Nat → Prop), s.well = .running m → m.arbiter < 96 →
      (∀ i, eligible i ↔ i < 96 ∧ (Part.drop (partOf s m) i).state = .up ∧ (Part.drop (partOf s m) i).queue ≠ [] ∧
        ∀ e ∈ m.calls, e.2.drop ≠ i) →
      ((∀ i, ¬eligible i) → exec .decision s = .next s) ∧
      ∀ i, eligible i → (∀ j, eligible j → (i + 95 - m.arbiter) % 96 ≤ (j + 95 - m.arbiter) % 96) →
        ∃ q : Part, exec .decision s = .next (s.withPart q) ∧ q.main.arbiter = i ∧
          (q.drop i).queue = (Part.drop (partOf s m) i).queue.tail) ∧
  ∀ (s : State) (m : Main) (i : Nat) (r : Request) (rest : List Request) (a : Answer) (full : Bool),
    s.well = .running m → Part.chooseDrop (partOf s m) = some i →
    (Part.drop (partOf s m) i).queue = r :: rest →
    Part.verdict (partOf s m) (Part.drop (partOf s m) i) (Part.dropConfig (partOf s m) i) r = (.answer a, full) →
    ∃ q : Part, exec .decision s = .next (s.withPart q) ∧
      q.ret = s.ret ∧
      q.main = { m with drops := q.main.drops, arbiter := i, poolFull := m.poolFull || full } ∧
      q.drop i = { Part.drop (partOf s m) i with
        queue := rest, answers := (Part.drop (partOf s m) i).answers ++ [⟨a, false⟩] } ∧
      ∀ j, j ≠ i → q.drop j = Part.drop (partOf s m) j

/-- A decision that passes every step places a call in the lowest FREE slot, with the first number after the counter that
no call in flight holds, and sends CALL_PLACE; it reserves the trip of a record with a quota, makes a PENDING ticket or
takes the claimed one, and records the escort admission. Nothing else changes. -/
def Obligations.DecisionPlacesACall : Prop :=
  ∀ (s : State) (m : Main) (i slot : Nat) (r : Request) (rest : List Request) (pl : Placement) (full : Bool),
    s.well = .running m → MainTables m → Part.chooseDrop (partOf s m) = some i →
    (Part.drop (partOf s m) i).queue = r :: rest →
    Part.verdict (partOf s m) (Part.drop (partOf s m) i) (Part.dropConfig (partOf s m) i) r = (.place pl, full) →
    slot < 32 → Table.lookup m.calls slot = none → (∀ k < slot, Table.lookup m.calls k ≠ none) →
    ∃ (q : Part) (c : Call), exec .decision s = .next (s.withPart q) ∧
      c = { number := c.number, drop := i, badge := pl.badge, group := pl.group
            origin := (Part.dropConfig (partOf s m) i).landing, firstDest := pl.firstDest, finalDest := pl.finalDest
            accessible := pl.accessible, claim := pl.claim.isSome, car := pl.car, charge := pl.reserve
            expiry := m.now + s.ret.params.callTimeout } ∧
      c.number ≠ 0 ∧ (∀ e ∈ m.calls, e.2.number ≠ c.number) ∧
      (∃ k, c.number = numberAt m.counter (k + 1) ∧
        ∀ j < k, ∃ e ∈ m.calls, e.2.number = numberAt m.counter (j + 1)) ∧
      ((∀ e ∈ m.calls, e.2.number ≠ if m.counter = 65535#16 then 1#16 else m.counter + 1) →
        c.number = if m.counter = 65535#16 then 1#16 else m.counter + 1) ∧
      q.ret = { s.ret with creds := q.ret.creds } ∧
      (∀ b, credAt q.ret b = (credAt s.ret b).map fun v =>
        if pl.reserve = true ∧ pl.badge = some b then { v with reserved := true } else v) ∧
      q.main = { m with
        arbiter := i, poolFull := m.poolFull || full, drops := q.main.drops, tickets := q.main.tickets
        calls := Table.put m.calls slot c, counter := c.number
        sendQueue :=
          if m.sendQueue.length < 64 then
            m.sendQueue ++ [.callPlace c.number c.group c.origin c.firstDest c.accessible c.car]
          else m.sendQueue } ∧
      q.main.tickets =
        (match pl.claim with
        | some t => m.tickets.map fun u => if u = t then claimedTicket ⟨c.number, slot⟩ u else u
        | none =>
          match pl.newTicket, pl.badge with
          | some (landing, second, dest), some b => m.tickets ++ [⟨b, landing, second, dest, .pending ⟨c.number, slot⟩⟩]
          | _, _ => m.tickets) ∧
      q.drop i = { Part.drop (partOf s m) i with
        queue := rest
        escort := if pl.admission then
            (Part.drop (partOf s m) i).escort.map fun w => { w with admitted := w.admitted + 1 }
          else (Part.drop (partOf s m) i).escort } ∧
      ∀ j, j ≠ i → q.drop j = Part.drop (partOf s m) j

/-- An ANONYMOUS request for a PUBLIC or SKY landing that a group of the drop's set serves, in service and in mode NORMAL
or OPEN, with the dispatcher link UP and a slot FREE, is placed on the lowest-numbered such group. -/
def Obligations.AnonymousTripIsPlaced : Prop :=
  ∀ (s : State) (m : Main) (i slot g : Nat) (rest : List Request) (l : Byte) (cfg : DropConfig),
    s.well = .running m → MainTables m → Part.chooseDrop (partOf s m) = some i →
    (Part.drop (partOf s m) i).queue = .anonymous l :: rest →
    Table.lookup s.ret.drops i = some cfg → l ≠ cfg.landing →
    g < 8 → inSet cfg.groups g = true → Part.serves (partOf s m) (byte g) l = true →
    (∀ k < g, inSet cfg.groups k = true → Part.serves (partOf s m) (byte k) l = false) →
    m.link = .up → inSet m.inService g = true →
    (Part.mode (partOf s m) g = .normal ∨ Part.mode (partOf s m) g = .opened) →
    (Part.kindOf (partOf s m) l = .publicLanding ∨ Part.kindOf (partOf s m) l = .sky) →
    slot < 32 → Table.lookup m.calls slot = none → (∀ k < slot, Table.lookup m.calls k ≠ none) →
    ∃ (q : Part) (c : Call), exec .decision s = .next (s.withPart q) ∧
      q.ret = s.ret ∧ Table.lookup q.main.calls slot = some c ∧
      c = ⟨c.number, i, none, byte g, cfg.landing, l, none, false, false, none, false, m.now + s.ret.params.callTimeout⟩ ∧
      (m.sendQueue.length < 64 →
        q.main.sendQueue = m.sendQueue ++ [.callPlace c.number (byte g) cfg.landing l false none]) ∧
      q.main.tickets = m.tickets ∧ q.main.poolFull = m.poolFull

/-- Steps 1 to 5 of a badge request, in order: REPEAT from a memory that matches; the calendar; the record and its state;
its tenant; its days; a call in flight for the badge; a quota of 0 where no ticket is claimable. -/
def Obligations.BadgeChecksInOrder : Prop :=
  ∀ (p : Part) (d : DropLive) (cfg : DropConfig) (r : Request) (b : Badge), requestBadge r = some b →
    (∀ k, d.memory = some k → k.badge = b → (requestLanding r = none ∨ requestLanding r = some k.dest) →
      p.verdict d cfg r = (.answer (.again k.group k.car k.dest), false)) ∧
    ((∀ k, d.memory = some k → k.badge = b → requestLanding r ≠ none ∧ requestLanding r ≠ some k.dest) →
      (p.ret.calendar.valid = false → p.verdict d cfg r = (.answer (.denied .calendarInvalid), false)) ∧
      (p.ret.calendar.valid = true →
        (p.cred b = none → p.verdict d cfg r = (.answer (.denied .unknownBadge), false)) ∧
        ∀ c, p.cred b = some c →
          (c.state = .suspended → p.verdict d cfg r = (.answer (.denied .suspended), false)) ∧
          (c.state ≠ .suspended →
            (c.tenant ≠ 0 → (p.tenant c.tenant).map Tenant.state ≠ some .live →
              p.verdict d cfg r = (.answer (.denied .tenantSuspended), false)) ∧
            (c.tenant = 0 ∨ (p.tenant c.tenant).map Tenant.state = some .live →
              (p.ret.calendar.day < c.validFrom → p.verdict d cfg r = (.answer (.denied .notYetValid), false)) ∧
              (c.validFrom ≤ p.ret.calendar.day →
                (∀ e, c.validTo = some e → e < p.ret.calendar.day →
                  p.verdict d cfg r = (.answer (.denied .expired), false)) ∧
                ((∀ e, c.validTo = some e → p.ret.calendar.day ≤ e) →
                  ((∃ e ∈ p.main.calls, e.2.badge = some b) →
                    p.verdict d cfg r = (.answer (.denied .badgeInCall), false)) ∧
                  ((∀ e ∈ p.main.calls, e.2.badge ≠ some b) →
                    (cfg.kind = .lobby ∨ (∀ t ∈ p.main.tickets, claimable cfg b (requestLanding r) t = false)) →
                    c.state = .exhausted →
                    p.verdict d cfg r = (.answer (.denied .quotaExhausted), false))))))))

/-- What follows step 3 of a decision. A badge request at a SKY drop with a claimable ticket of its badge (ISSUED, to the
drop's landing, on a group of its set, to the landing carried if any) comes to the claim of that ticket; with none, or at a
LOBBY drop, a record that is not EXHAUSTED goes on to step 6, as an ANONYMOUS request does. A claim takes the ticket's group
and destination unless the link is not UP, its group is out of service, in RECALL or, for a holder that is not SECURITY, in
LOCKDOWN, or no slot is FREE, tested in this order. Step 6 takes the destination, and refuses none and the drop's own
landing. A direct route takes the lowest-numbered serving group of the drop's set; else the first transfer entry that fits;
without a route the request is refused; then the link, the service and the modes of its groups are tested. -/
def Obligations.ClaimRouteAndServiceInOrder : Prop :=
  (∀ (p : Part) (b : Badge) (c : Cred) (t : Ticket),
      (p.main.link ≠ .up → p.claimVerdict b c t = .answer (.noService .dispatcherDown)) ∧
      (p.main.link = .up →
        (inSet p.main.inService t.group.toNat = false → p.claimVerdict b c t = .answer (.noService .groupOut)) ∧
        (inSet p.main.inService t.group.toNat = true →
          (p.mode t.group.toNat = .recalled → p.claimVerdict b c t = .answer (.denied .modeRecall)) ∧
          (p.mode t.group.toNat = .lockdown → c.cls ≠ .security →
            p.claimVerdict b c t = .answer (.denied .modeLockdown)) ∧
          (p.mode t.group.toNat ≠ .recalled → (p.mode t.group.toNat = .lockdown → c.cls = .security) →
            ((∀ k < 32, Table.lookup p.main.calls k ≠ none) → p.claimVerdict b c t = .answer (.noService .callsFull)) ∧
            ((∃ k < 32, Table.lookup p.main.calls k = none) →
              ∃ pl : Placement, p.claimVerdict b c t = .place pl ∧ pl.badge = some b ∧ pl.group = t.group ∧
                pl.firstDest = t.dest ∧ pl.finalDest = none ∧ pl.accessible = c.accessible ∧ pl.car = none ∧
                pl.reserve = false ∧ pl.admission = false ∧ pl.newTicket = none ∧ pl.claim = some t))))) ∧
  (∀ (p : Part) (d : DropLive) (cfg : DropConfig) (r : Request),
      (requestBadge r = none → p.verdict d cfg r = p.ordinaryVerdict d cfg (requestLanding r) none) ∧
      ∀ (b : Badge) (c : Cred), PassesCredential p d r b c →
        (∀ (t : Ticket) (e : Nat), cfg.kind = .sky → t ∈ p.main.tickets → t.badge = b → t.state = .issued e →
          t.landing = cfg.landing → inSet cfg.groups t.group.toNat = true →
          (requestLanding r = none ∨ requestLanding r = some t.dest) →
          (∀ u ∈ p.main.tickets, u.badge = b → u.state.isIssued = true → u = t) →
          p.verdict d cfg r = (p.claimVerdict b c t, false)) ∧
        ((cfg.kind = .lobby ∨ ∀ t ∈ p.main.tickets, claimable cfg b (requestLanding r) t = false) →
          c.state ≠ .exhausted → p.verdict d cfg r = p.ordinaryVerdict d cfg (requestLanding r) (some (b, c)))) ∧
  (∀ (p : Part) (d : DropLive) (cfg : DropConfig) (landing : Option Byte) (who : Holder),
      (destinationOf d landing who = none →
        p.ordinaryVerdict d cfg landing who = (.answer (.denied .noDestination), false)) ∧
      ∀ dest, destinationOf d landing who = some dest →
        (dest = cfg.landing → p.ordinaryVerdict d cfg landing who = (.answer (.denied .noRoute), false)) ∧
        (dest ≠ cfg.landing →
          (p.route cfg dest = none → p.ordinaryVerdict d cfg landing who = (.answer (.denied .noRoute), false)) ∧
          ∀ route, p.route cfg dest = some route →
            p.ordinaryVerdict d cfg landing who = p.tripVerdict d cfg who route dest)) ∧
  ∀ (p : Part) (d : DropLive) (cfg : DropConfig) (who : Holder) (dest : Byte) (route : Route),
    (∀ g < 8, inSet cfg.groups g = true → p.serves (byte g) dest = true →
      (∀ k < g, inSet cfg.groups k = true → p.serves (byte k) dest = false) →
      p.route cfg dest = some ⟨byte g, none⟩) ∧
    ((∀ g < 8, inSet cfg.groups g = true → p.serves (byte g) dest = false) →
      p.route cfg dest = ((p.ret.transfers.find? fun e =>
        inSet cfg.groups e.2.first.toNat && p.serves e.2.second dest && decide (e.2.landing ≠ cfg.landing)).map
          fun e => ⟨e.2.first, some (e.2.landing, e.2.second)⟩)) ∧
    (p.main.link ≠ .up → p.tripVerdict d cfg who route dest = (.answer (.noService .dispatcherDown), false)) ∧
    (p.main.link = .up →
      ((∃ g ∈ route.groups, inSet p.main.inService g.toNat = false) →
        p.tripVerdict d cfg who route dest = (.answer (.noService .groupOut), false)) ∧
      ((∀ g ∈ route.groups, inSet p.main.inService g.toNat = true) →
        ((∃ g ∈ route.groups, p.mode g.toNat = .recalled) →
          p.tripVerdict d cfg who route dest = (.answer (.denied .modeRecall), false)) ∧
        ((∀ g ∈ route.groups, p.mode g.toNat ≠ .recalled) →
          (∃ g ∈ route.groups, p.mode g.toNat = .lockdown) → isClass who .security = false →
          p.tripVerdict d cfg who route dest = (.answer (.denied .modeLockdown), false))))

/-- Step 11 permits or refuses a destination by the class of the holder and the kind of the landing; a TENANT landing by
the destination group's mode OPEN, else by floor and personal grants; a SECURE one by personal grants alone. In a decision
that has passed steps 8 and 9 it comes after step 10, which answers NO_TICKET to a VISITOR at a SKY drop bound for neither
PUBLIC nor SKY; what it refuses is DENIED; after it step 12 asks an ESCORT_REQUIRED holder for an open window of its tenant
with fewer than 4 admitted, step 13 finds a transfer trip with a badge a place in the pool or turns a VISITOR away, step 14
asks for a FREE slot, and the trip is placed with its route's groups and landings. -/
def Obligations.PermissionByClassAndKind : Prop :=
  (∀ (p : Part) (b : Badge) (c : Cred) (route : Route) (dest : Byte),
      (c.cls = .security → p.permissionDenial (some (b, c)) route dest = none) ∧
      (∀ who : Holder, p.kindOf dest = .publicLanding ∨ p.kindOf dest = .sky → p.permissionDenial who route dest = none) ∧
      (∀ who : Holder, p.kindOf dest = .tenant → p.mode route.last.toNat = .opened →
        p.permissionDenial who route dest = none) ∧
      (p.kindOf dest = .tenant → p.mode route.last.toNat ≠ .opened →
        p.permissionDenial none route dest = some .badgeNeeded ∧
        (c.cls ≠ .security → p.permissionDenial (some (b, c)) route dest =
          p.grantDenial (p.effectiveFloors c ++ c.grants) dest)) ∧
      (p.kindOf dest = .secure ∨ p.kindOf dest = .plant ∨ p.kindOf dest = .closed →
        p.permissionDenial none route dest = some .badgeNeeded) ∧
      (p.kindOf dest = .secure → c.cls = .staff ∨ c.cls = .service →
        p.permissionDenial (some (b, c)) route dest = p.grantDenial c.grants dest) ∧
      (p.kindOf dest = .secure → c.cls = .visitor → p.permissionDenial (some (b, c)) route dest = some .notPermitted) ∧
      (p.kindOf dest = .plant → c.cls = .service → p.permissionDenial (some (b, c)) route dest = none) ∧
      (p.kindOf dest = .plant → c.cls = .staff ∨ c.cls = .visitor →
        p.permissionDenial (some (b, c)) route dest = some .notPermitted) ∧
      (p.kindOf dest = .closed → c.cls ≠ .security →
        p.permissionDenial (some (b, c)) route dest = some .notPermitted) ∧
      (c.tenant = 0 → p.effectiveFloors c = []) ∧
      (∀ v, c.tenant ≠ 0 → p.tenant c.tenant = some v →
        (∀ k o, p.overlayOf c.tenant = some (k, o) → (o.scope = some .all ∨ (o.scope = some .trial ∧ c.trial = true)) →
          p.effectiveFloors c = o.grants) ∧
        ((∀ k o, p.overlayOf c.tenant = some (k, o) → o.scope = none ∨ (o.scope = some .trial ∧ c.trial = false)) →
          p.effectiveFloors c = v.grants))) ∧
  ∀ (p : Part) (d : DropLive) (cfg : DropConfig) (who : Holder) (route : Route) (dest : Byte) (needs full : Bool),
    PassesService p who route →
    needs = decide (cfg.kind = .sky ∧ isClass who .visitor = true ∧ p.kindOf dest ≠ .publicLanding ∧ p.kindOf dest ≠ .sky) →
    full = decide (route.transfer.isSome = true ∧ who.isSome = true ∧ 1024 ≤ p.main.tickets.length) →
    (needs = true → p.tripVerdict d cfg who route dest = (.answer (.denied .noTicket), false)) ∧
    (needs = false → ∀ why, p.permissionDenial who route dest = some why →
      p.tripVerdict d cfg who route dest = (.answer (.denied why), false)) ∧
    (needs = false → p.permissionDenial who route dest = none →
      (∀ b c, who = some (b, c) → c.escort = true → ¬windowAdmits d c →
        p.tripVerdict d cfg who route dest = (.answer (.denied .escortRequired), false)) ∧
      ((∀ b c, who = some (b, c) → c.escort = true → windowAdmits d c) →
        (full = true → isClass who .visitor = true →
          p.tripVerdict d cfg who route dest = (.answer (.denied .ticketPoolFull), true)) ∧
        (full = false ∨ isClass who .visitor = false →
          ((∀ k < 32, Table.lookup p.main.calls k ≠ none) →
            p.tripVerdict d cfg who route dest = (.answer (.noService .callsFull), full)) ∧
          ((∃ k < 32, Table.lookup p.main.calls k = none) →
            p.tripVerdict d cfg who route dest = (.place {
              badge := who.map Prod.fst
              group := route.first
              firstDest := (route.transfer.map Prod.fst).getD dest
              finalDest := route.transfer.map fun _ => dest
              accessible := who.any fun h => h.2.accessible
              car := if (who.any fun h => h.2.escort) = true then d.escort.map EscortWindow.car else none
              reserve := who.any fun h => h.2.quota.isSome
              admission := who.any fun h => h.2.escort
              newTicket :=
                if who.isSome = true ∧ full = false then route.transfer.map fun e => (e.1, e.2, dest) else none
              claim := none }, full)))))

/-- The grant test: permitted by a covering grant whose schedule is in force, OUT_OF_SCHEDULE where grants cover and none
is in force, NOT_PERMITTED where none covers; order and duplicates do not change it, and tenant 0 lends no grant. -/
def Obligations.GrantTest : Prop :=
  ∀ (p : Part) (grants : List Grant) (dest : Byte),
    ((∃ g ∈ grants, g.low ≤ dest ∧ dest ≤ g.high ∧ p.inForce g.schedule = true) → p.grantDenial grants dest = none) ∧
    ((∃ g ∈ grants, g.low ≤ dest ∧ dest ≤ g.high) →
      (∀ g ∈ grants, g.low ≤ dest → dest ≤ g.high → p.inForce g.schedule = false) →
      p.grantDenial grants dest = some .outOfSchedule) ∧
    ((∀ g ∈ grants, ¬(g.low ≤ dest ∧ dest ≤ g.high)) → p.grantDenial grants dest = some .notPermitted) ∧
    (∀ grants', (∀ g, g ∈ grants' ↔ g ∈ grants) → p.grantDenial grants' dest = p.grantDenial grants dest) ∧
    ∀ c : Cred, c.tenant = 0 → p.effectiveFloors c = []

/-! ## Calls, the dispatcher link and tickets -/

/-- CALL_ASSIGNED ends the call that holds its number: its trip is charged, its ticket issued or honoured, the memories of
an UP drop set, GRANTED appended there, and its slot made FREE. Nothing else changes. -/
def Obligations.CallAssignedEndsTheCall : Prop :=
  ∀ (s : State) (m : Main) (number : Half) (car : Byte) (slot : Nat) (c : Call) (dest : Byte), s.well = .running m →
    car ≠ 0xFF#8 → Part.callNumbered (partOf s m) number = some (slot, c) → dest = c.finalDest.getD c.firstDest →
    ∃ q : Part, exec (.callAssigned number car) s = .next (s.withPart q) ∧
      q.ret = { s.ret with creds := q.ret.creds } ∧
      q.main = { m with
        receiving := setPut m.receiving 6 false
        tickets := q.main.tickets, drops := q.main.drops, calls := Table.erase m.calls slot } ∧
      (∀ b, ¬(c.charge = true ∧ c.badge = some b) → credAt q.ret b = credAt s.ret b) ∧
      (∀ b v, c.charge = true → c.badge = some b → credAt s.ret b = some v →
        (v.reserved = false → credAt q.ret b = some v) ∧
        (∀ k, v.reserved = true → v.quota = some k → k ≠ 0 →
          credAt q.ret b = some { v with
            quota := some (k - 1), reserved := false
            state := if k = 1 ∧ v.state = .active then .exhausted else v.state })) ∧
      (∀ j, j ≠ c.drop → q.drop j = Part.drop (partOf s m) j) ∧
      ((Part.drop (partOf s m) c.drop).state ≠ .up → q.drop c.drop = Part.drop (partOf s m) c.drop) ∧
      ((Part.drop (partOf s m) c.drop).state = .up →
        q.drop c.drop = { Part.drop (partOf s m) c.drop with
          answers := (Part.drop (partOf s m) c.drop).answers ++ [⟨.granted c.group car c.firstDest c.finalDest, false⟩]
          memory := match c.badge with
            | none => (Part.drop (partOf s m) c.drop).memory
            | some b => some ⟨b, dest, c.group, car, m.now, m.now + 10 * s.ret.params.repeatWindow⟩
          escort := match c.badge.bind (credAt s.ret) with
            | none => (Part.drop (partOf s m) c.drop).escort
            | some v =>
              if v.cls = .staff ∧ v.tenant ≠ 0 then
                some ⟨v.tenant, dest, c.group, car, m.now, 0, m.now + 10 * s.ret.params.escortWindow⟩
              else (Part.drop (partOf s m) c.drop).escort })

/-- The ticket item of an assignment: a linked PENDING ticket is issued, its lifetime counted from the assignment and any
other ISSUED ticket of the badge removed, when the record as it stands after the charge is not SUSPENDED and names tenant 0
or a LIVE one; else it leaves. A linked CLAIMED ticket leaves. Without a linked ticket no ticket changes. -/
def Obligations.AssignmentSettlesTheTicket : Prop :=
  ∀ (s : State) (m : Main) (number : Half) (car : Byte) (slot : Nat) (c : Call), s.well = .running m →
    car ≠ 0xFF#8 → Part.callNumbered (partOf s m) number = some (slot, c) →
    ∃ q : Part, exec (.callAssigned number car) s = .next (s.withPart q) ∧
      (Part.linkedTicket (partOf s m) ⟨c.number, slot⟩ = none → q.main.tickets = m.tickets) ∧
      ∀ t, Part.linkedTicket (partOf s m) ⟨c.number, slot⟩ = some t →
        (∀ e l, t.state = .claimed e l →
          q.main.tickets = m.tickets.filter fun u => decide (u.state.link ≠ some ⟨c.number, slot⟩)) ∧
        (∀ l, t.state = .pending l →
          (∀ b v, c.badge = some b → credAt q.ret b = some v → v.state ≠ .suspended →
            (v.tenant = 0 ∨ (tenantAt s.ret v.tenant).map Tenant.state = some .live) →
            q.main.tickets = (m.tickets.filter fun u => !(u.state.isIssued && decide (u.badge = t.badge))).map fun u =>
              if u.state.link = some ⟨c.number, slot⟩ then
                { u with state := .issued (m.now + 600 * s.ret.params.ticketLifetime) }
              else u) ∧
          ((∀ b v, c.badge = some b → credAt q.ret b = some v → v.state = .suspended ∨
              (v.tenant ≠ 0 ∧ (tenantAt s.ret v.tenant).map Tenant.state ≠ some .live)) →
            q.main.tickets = m.tickets.filter fun u => decide (u.state.link ≠ some ⟨c.number, slot⟩)))

/-- CALL_DECLINED for a call in flight unwinds it with DECLINED and the dispatcher's code; the expiry of its timer unwinds
it with TIMEOUT, and does nothing before the expiry is reached (log 4). -/
def Obligations.CallsAreUnwound : Prop :=
  ∀ (s : State) (m : Main) (number : Half) (slot : Nat) (c : Call), s.well = .running m →
    Part.callNumbered (partOf s m) number = some (slot, c) →
    (∀ code : Byte, code.toNat < 16 → ∃ q : Part,
      exec (.callDeclined number code) s = .next (s.withPart q) ∧
      Unwound ⟨s.ret, { m with receiving := setPut m.receiving 6 false }⟩ q slot c (.declined code)) ∧
    (c.expiry ≤ m.now → ∃ q : Part,
      exec (.callTimerExpiry number) s = .next (s.withPart q) ∧ Unwound (partOf s m) q slot c .timeout) ∧
    (m.now < c.expiry → exec (.callTimerExpiry number) s = .next s)

/-- A CALL_ASSIGNED that finds no call is answered CALL_CANCEL and changes nothing else; a CALL_DECLINED that finds none
is ignored; in every state of the link. An assignment whose number a new call holds ends that call, and frees its number,
so a second one is answered CALL_CANCEL. -/
def Obligations.LateAnswersFindNoCall : Prop :=
  ∀ (s : State) (m : Main) (number : Half) (car code : Byte), s.well = .running m →
    car ≠ 0xFF#8 → code.toNat < 16 →
    ((∀ e ∈ m.calls, e.2.number ≠ number) →
      exec (.callAssigned number car) s = .next (s.withPart ⟨s.ret, { m with
        receiving := setPut m.receiving 6 false
        sendQueue :=
          if m.sendQueue.length < 64 then m.sendQueue ++ [.callCancel number] else m.sendQueue }⟩) ∧
      exec (.callDeclined number code) s =
        .next (s.withPart ⟨s.ret, { m with receiving := setPut m.receiving 6 false }⟩)) ∧
    (MainTables m → CallsApart s.ret m → (∃ e ∈ m.calls, e.2.number = number) →
      ∃ q : Part, exec (.callAssigned number car) s = .next (s.withPart q) ∧
        q.main.calls = m.calls.filter (fun e => decide (e.2.number ≠ number)) ∧
        ∀ e ∈ q.main.calls, e.2.number ≠ number)

/-- DISPATCH_ALIVE replaces the in-service set, starts the liveness timer afresh, and moves the link: a frame in DOWN makes
a run of 1, one in QUALIFYING lengthens it, and the qualify count makes the link UP, its run 0, with a MODE_NOTICE for
every configured group in ascending order, as far as the send queue's 64 frames allow. -/
def Obligations.DispatchAliveMovesTheLink : Prop :=
  ∀ (s : State) (m : Main) (groups : Set8), s.well = .running m → m.sendQueue.length ≤ 64 →
    ∃ q : Part, exec (.dispatchAlive groups) s = .next (s.withPart q) ∧ q.ret = s.ret ∧
      q.main = { m with
        receiving := setPut m.receiving 6 false
        inService := groups
        liveness := some (m.now + s.ret.params.livenessTimeout)
        link := q.main.link, aliveRun := q.main.aliveRun, sendQueue := q.main.sendQueue } ∧
      (m.link = .up → q.main.link = .up ∧ q.main.aliveRun = m.aliveRun ∧ q.main.sendQueue = m.sendQueue) ∧
      (∀ run, (m.link = .down ∧ run = 1) ∨ (m.link = .qualifying ∧ run = m.aliveRun + 1) →
        (run < s.ret.params.linkQualify →
          q.main.link = .qualifying ∧ q.main.aliveRun = run ∧ q.main.sendQueue = m.sendQueue) ∧
        (s.ret.params.linkQualify ≤ run →
          q.main.link = .up ∧ q.main.aliveRun = 0 ∧
          q.main.sendQueue = (m.sendQueue ++ notices (partOf s m)).take 64))

/-- When the liveness timer expires the link is DOWN, its timer stopped, its run 0 and no group in service; from UP every
call in flight is unwound with DISPATCHER_DOWN and nothing is sent. Before the expiry nothing happens (log 4). -/
def Obligations.LivenessExpiryTakesTheLinkDown : Prop :=
  ∀ (s : State) (m : Main), s.well = .running m → Inv s →
    ((∀ e, m.liveness = some e → m.now < e) → exec .livenessTimerExpiry s = .next s) ∧
    ((∃ e, m.liveness = some e ∧ e ≤ m.now) →
      (m.link = .qualifying → exec .livenessTimerExpiry s = .next (s.withPart ⟨s.ret, { m with
        link := .down, liveness := none, aliveRun := 0, inService := 0 }⟩)) ∧
      (m.link = .up → ∃ q : Part, exec .livenessTimerExpiry s = .next (s.withPart q) ∧
        q.ret = { s.ret with creds := q.ret.creds } ∧
        q.main = { m with
          link := .down, liveness := none, aliveRun := 0, inService := 0
          calls := [], tickets := q.main.tickets, drops := q.main.drops } ∧
        (∀ b, credAt q.ret b = (credAt s.ret b).map fun v =>
          if (m.calls.any fun e => e.2.charge && decide (e.2.badge = some b)) = true then { v with reserved := false }
          else v) ∧
        (q.main.tickets = m.tickets.filterMap fun t =>
          match t.state with
          | .pending _ => none
          | .issued e => some { t with state := .issued e }
          | .claimed e _ => if e ≤ m.now then none else some { t with state := .issued e }) ∧
        ∀ i, q.drop i =
          if (Part.drop (partOf s m) i).state = .up ∧ (m.calls.any fun e => decide (e.2.drop = i)) = true then
            { Part.drop (partOf s m) i with
              answers := (Part.drop (partOf s m) i).answers ++ [⟨.noService .dispatcherDown, false⟩] }
          else Part.drop (partOf s m) i))

/-- The frame at the head of the send queue leaves it when it has been sent. A ticket leaves the pool at its expiry when it
is ISSUED, a repeat memory becomes empty and an escort window closes at its end, and none of the three before (log 4). The
reply window of an outstanding poll starts when its last byte has been sent. -/
def Obligations.EndsOfFramesTicketsAndMemories : Prop :=
  ∀ (s : State) (m : Main), s.well = .running m →
    exec .dispatcherFrameSent s = .next (s.withPart ⟨s.ret, { m with sendQueue := m.sendQueue.tail }⟩) ∧
    (∀ b, exec (.ticketExpiry b) s = .next (s.withPart ⟨s.ret, { m with tickets := m.tickets.filter fun t =>
      !(decide (t.badge = b) && (match t.state with | .issued e => decide (e ≤ m.now) | _ => false)) }⟩)) ∧
    (∀ n : Fin 96, (Part.drop (partOf s m) n.val).memory = none → exec (.repeatMemoryEnd n) s = .next s) ∧
    (∀ (n : Fin 96) (d : DropLive) (k : RepeatMemory), d = Part.drop (partOf s m) n.val → d.memory = some k →
      (m.now < k.ends → exec (.repeatMemoryEnd n) s = .next s) ∧
      (k.ends ≤ m.now → exec (.repeatMemoryEnd n) s = .next (s.withPart ⟨s.ret, { m with
        drops := Table.set .unconfigured m.drops n.val { d with memory := none } }⟩))) ∧
    (∀ n : Fin 96, (Part.drop (partOf s m) n.val).escort = none → exec (.escortWindowEnd n) s = .next s) ∧
    (∀ (n : Fin 96) (d : DropLive) (w : EscortWindow), d = Part.drop (partOf s m) n.val → d.escort = some w →
      (m.now < w.ends → exec (.escortWindowEnd n) s = .next s) ∧
      (w.ends ≤ m.now → exec (.escortWindowEnd n) s = .next (s.withPart ⟨s.ret, { m with
        drops := Table.set .unconfigured m.drops n.val { d with escort := none } }⟩))) ∧
    (∀ l : Fin 6, (Part.panelLink (partOf s m) l.val).poll = none → exec (.pollSent l) s = .next s) ∧
    ∀ (l : Fin 6) (k : Poll), (Part.panelLink (partOf s m) l.val).poll = some k →
      exec (.pollSent l) s = .next (s.withPart ⟨s.ret, { m with
        links := Table.set .fresh m.links l.val
          { Part.panelLink (partOf s m) l.val with poll := some { k with windowRunning := true } } }⟩)

/-! ## Panel links -/

/-- A valid reply of the polled drop is taken by its state, the poll ends and the next one is sent: DOWN becomes
QUALIFYING with run 1; QUALIFYING counts, and is UP at the qualify count; UP clears its miss run, loses the answer the poll
carried, and queues the request or is answered BUSY. A reply from another address is a miss, and with no poll outstanding
it is discarded; so is one that was under way when the end of the reply window ended its poll, also while the next poll is
outstanding, which is how the model reads R208 beside R153 (log 31). -/
def Obligations.ValidReplyIsTaken : Prop :=
  ∀ (s : State) (m : Main) (l : Fin 6) (a : Fin 16) (request : Option Request), s.well = .running m →
    ((Part.panelLink (partOf s m) l.val).poll = none ∨ inSet m.late l.val = true → exec (.validReply l a request) s =
      .next (s.withPart ⟨s.ret, { m with
        receiving := setPut m.receiving l.val false, late := setPut m.late l.val false }⟩)) ∧
    ∀ k : Poll, (Part.panelLink (partOf s m) l.val).poll = some k →
      (a.val ≠ k.address → exec (.validReply l a request) s = exec (.invalidReply l) s) ∧
      (a.val = k.address → inSet m.late l.val = false → ∀ d, d = Part.drop (partOf s m) (16 * l.val + k.address) →
        ∃ p q : Part, exec (.validReply l a request) s = .next (s.withPart q) ∧ NextPoll l.val p q ∧
          p.ret = s.ret ∧
          p.main = { m with
            receiving := setPut m.receiving l.val false, late := setPut m.late l.val false, drops := p.main.drops
            links := Table.set .fresh m.links l.val { Part.panelLink (partOf s m) l.val with poll := none } } ∧
          (∀ n, n ≠ 16 * l.val + k.address → p.drop n = Part.drop (partOf s m) n) ∧
          (d.state = .unconfigured → p.drop (16 * l.val + k.address) = d) ∧
          (d.state = .down → p.drop (16 * l.val + k.address) = { d with state := .qualifying, qualifyRun := 1 }) ∧
          (d.state = .qualifying → p.drop (16 * l.val + k.address) =
            if s.ret.params.dropQualify ≤ d.qualifyRun + 1 then { d with state := .up, qualifyRun := 0 }
            else { d with qualifyRun := d.qualifyRun + 1 }) ∧
          (d.state = .up → ∀ acked, acked = (if k.answer.isSome then d.answers.tail else d.answers) →
            (request = none →
              p.drop (16 * l.val + k.address) = { d with missRun := 0, answers := acked }) ∧
            ∀ r, request = some r → p.drop (16 * l.val + k.address) =
              if d.queue.length < 2 then { d with missRun := 0, answers := acked, queue := d.queue ++ [r] }
              else { d with missRun := 0, answers := acked ++ [⟨.busy, false⟩] }))

/-- A miss ends the outstanding poll and the next one is sent: an invalid frame, the end of a running reply window, or the
gap of a frame being received. DOWN stays; QUALIFYING becomes DOWN; UP counts the miss, and at the miss limit is DOWN with
everything it held gone and PANEL_DOWN set. With no poll outstanding nothing counts: a frame that ends, by its check or by
the gap, is discarded. That REPLY_WINDOW_END changes nothing while its window does not run is the model's choice (log 24). A
frame under way at the end of the window is late, and is discarded when it ends although the next poll is outstanding,
which is how the model reads R208 beside R153 (log 31). -/
def Obligations.MissEndsThePoll : Prop :=
  ∀ (s : State) (m : Main) (l : Fin 6), s.well = .running m →
    ((Part.panelLink (partOf s m) l.val).poll = none → exec (.replyWindowEnd l) s = .next s) ∧
    (∀ c : Instr, (Part.panelLink (partOf s m) l.val).poll = none ∨ inSet m.late l.val = true →
      c = .invalidReply l ∨ (c = .frameGapTimeout (.panel l) ∧ inSet m.receiving l.val = true) →
      exec c s = .next (s.withPart ⟨s.ret, { m with
        receiving := setPut m.receiving l.val false, late := setPut m.late l.val false }⟩)) ∧
    (∀ k : Poll, (Part.panelLink (partOf s m) l.val).poll = some k → k.windowRunning = false →
      exec (.replyWindowEnd l) s = .next s) ∧
    ∀ (k : Poll) (d : DropLive) (c : Instr) (receiving late : Set8),
      (Part.panelLink (partOf s m) l.val).poll = some k → d = Part.drop (partOf s m) (16 * l.val + k.address) →
      (c = .invalidReply l ∧ inSet m.late l.val = false ∧
          receiving = setPut m.receiving l.val false ∧ late = setPut m.late l.val false) ∨
        (c = .replyWindowEnd l ∧ k.windowRunning = true ∧
          receiving = m.receiving ∧ late = setPut m.late l.val (inSet m.receiving l.val)) ∨
        (c = .frameGapTimeout (.panel l) ∧ inSet m.receiving l.val = true ∧ inSet m.late l.val = false ∧
          receiving = setPut m.receiving l.val false ∧ late = setPut m.late l.val false) →
      ∃ p q : Part, exec c s = .next (s.withPart q) ∧ NextPoll l.val p q ∧
        p.ret = s.ret ∧
        p.main = { m with
          receiving := receiving, late := late, drops := p.main.drops, panelDown := p.main.panelDown
          links := Table.set .fresh m.links l.val { Part.panelLink (partOf s m) l.val with poll := none } } ∧
        (∀ n, n ≠ 16 * l.val + k.address → p.drop n = Part.drop (partOf s m) n) ∧
        (d.state = .unconfigured ∨ d.state = .down →
          p.drop (16 * l.val + k.address) = d ∧ p.main.panelDown = m.panelDown) ∧
        (d.state = .qualifying →
          p.drop (16 * l.val + k.address) = { d with state := .down, qualifyRun := 0 } ∧
          p.main.panelDown = m.panelDown) ∧
        (d.state = .up → d.missRun + 1 < s.ret.params.missLimit →
          p.drop (16 * l.val + k.address) = { d with missRun := d.missRun + 1 } ∧ p.main.panelDown = m.panelDown) ∧
        (d.state = .up → s.ret.params.missLimit ≤ d.missRun + 1 →
          p.drop (16 * l.val + k.address) = ⟨.down, 0, 0, [], [], none, none⟩ ∧ p.main.panelDown = true)

/-! ## Power -/

/-- The wells and their pins. When power is first applied the main well is OFF, and it stays so until the start condition
begins to hold; the model's reset is what the first main start makes of it (log 2). The retention well is kept when it gains
power with its indication, and else takes its values after a loss with RETENTION_LOST set; that the IDLE purge walker then
names tenant 0 is the model's choice (log 25). Losing the retention supply loses the well while the main well does not run
(log 9), its contents left in place (log 11), and a main stop without that supply loses it too (log 10). The start condition
takes OFF to QUALIFYING; its end takes QUALIFYING to OFF and stops a running main well. With both inputs good the condition
has not ceased (log 6). -/
def Obligations.WellsAndPins : Prop :=
  (State.powerApplied.well = .off ∧
    ∃ t u, exec .retentionPowerGain State.powerApplied = .next t ∧ exec .startConditionBegins t = .next u ∧
      exec (.startSequence 0xFF) u = .next State.reset) ∧
  (∀ (c : Instr) (s t : State), s.well = .off → c ≠ .startConditionBegins → exec c s = .next t → t.well = .off) ∧
  ∀ s : State,
    (s.ret.intact = true → exec .retentionPowerGain s = .next { s with retentionSupply := true }) ∧
    (s.ret.intact = false → exec .retentionPowerGain s = .next { s with
      retentionSupply := true
      ret := {
        creds := [], tenants := [], purge := ⟨false, 0, 0⟩, calendar := ⟨false, 0, 0, 0⟩, holidays := []
        schedules := [], sweep := ⟨false, 0, 0, 0, 0⟩, params := ⟨40, 20, 30, 8, 30, 3, 8, 3, 7⟩, landings := []
        groups := [], transfers := [], drops := [], lines := [], lineStatus := 0, latches := 0
        retentionLost := true, intact := true } }) ∧
    (s.well = .off ∨ s.well = .qualifying → exec .retentionSupplyLoss s = .next { s with
      retentionSupply := false, ret := { s.ret with intact := false } }) ∧
    (∀ m, s.well = .running m → exec .retentionSupplyLoss s = .next { s with retentionSupply := false }) ∧
    (s.well = .off ∨ s.well = .qualifying → exec .startConditionBegins s = .next { s with
      mainOk := true, resetReleased := true, well := .qualifying }) ∧
    (∀ m, s.well = .running m → exec .startConditionBegins s = .next { s with
      mainOk := true, resetReleased := true }) ∧
    exec (.startConditionCeases true true) s = .next s ∧
    ∀ ok released, (ok && released) = false →
      (s.well = .off ∨ s.well = .qualifying → exec (.startConditionCeases ok released) s = .next { s with
        mainOk := ok, resetReleased := released, well := .off }) ∧
      ∀ m, s.well = .running m → exec (.startConditionCeases ok released) s = .next { s with
        mainOk := ok, resetReleased := released, well := .off
        ret := { s.ret with intact := s.ret.intact && s.retentionSupply } }

/-- The start sequence is taken of a qualifying well alone: the reservations are cleared, every configured drop is DOWN and
the lowest of each link is polled, the lines begin their debounce and those with no debounce time act at once, the latches
and modes follow the demands, every configured group's mode is sent in ascending order, and all else is at its value after
main start. A lost retention well takes its values after a loss first. -/
def Obligations.StartSequence : Prop :=
  (∀ (s : State) (levels : Set8), s.well ≠ .qualifying → exec (.startSequence levels) s = .next s) ∧
  ∀ (s : State) (levels : Set8) (r : Retention), s.well = .qualifying →
    r = (if s.ret.intact then s.ret else Retention.afterLoss) →
    ∃ q : Part, exec (.startSequence levels) s = .next (s.withPart q) ∧
      q.ret = { r with
        creds := r.creds.map fun e => (e.1, { e.2 with reserved := false })
        lineStatus := q.ret.lineStatus, latches := q.ret.latches } ∧
      q.main = { Main.fresh with
        drops := q.main.drops, links := q.main.links, lines := q.main.lines
        modes := q.main.modes, sendQueue := notices q } ∧
      (∀ n, q.drop n = if (Table.lookup r.drops n).isSome then .emptied .down else .unconfigured) ∧
      (∀ l < 6, ∀ a < 16, Table.lookup r.drops (16 * l + a) ≠ none →
        (∀ b < a, Table.lookup r.drops (16 * l + b) = none) →
        q.panelLink l = ⟨some a, some ⟨a, none, false, false⟩⟩) ∧
      (∀ l < 6, (∀ a < 16, Table.lookup r.drops (16 * l + a) = none) → q.panelLink l = .fresh) ∧
      (∀ n < 8, ∀ cfg, cfg = Table.get .defaults r.lines n → ∀ raw, raw = inSet levels n →
        (raw = cfg.polarity.inactive →
          q.lineLive n = ⟨raw, raw, none⟩ ∧ inSet q.ret.lineStatus n = inSet r.lineStatus n) ∧
        (raw ≠ cfg.polarity.inactive → cfg.debounce ≠ 0 →
          q.lineLive n = ⟨raw, !raw, some cfg.debounce⟩ ∧ inSet q.ret.lineStatus n = inSet r.lineStatus n) ∧
        (raw ≠ cfg.polarity.inactive → cfg.debounce = 0 →
          q.lineLive n = ⟨raw, raw, none⟩ ∧ inSet q.ret.lineStatus n = true)) ∧
      ∀ g ∈ eight, inSet q.ret.latches g = (inSet r.latches g || q.holds g .recalled) ∧ q.mode g = q.effectiveMode g

/-! ## Laws that every step keeps -/

/-- The part satisfies every law after reset. -/
def Obligations.LawsHoldAtReset : Prop := Inv State.reset

/-- Every step keeps the retention well's tables in their one form and within their limits, records in step with their
quotas, and each tenant's count equal to the number of records naming it. -/
def Obligations.RetentionWellStaysLawful : Prop :=
  ∀ s s' : State, Inv s → step s = .next s' →
    RetentionTables s'.ret ∧ RetentionLimits s'.ret ∧ CredentialsInStep s'.ret ∧ TenantsCounted s'.ret

/-- Every step keeps the map consistent. -/
def Obligations.MapStaysConsistent : Prop :=
  ∀ s s' : State, Inv s → step s = .next s' → MapConsistent s'.ret

/-- Every step keeps the main well's tables in their one form and within their limits, the overlay slots on different
present tenants, the liveness timer running exactly while the link is not DOWN, calls in flight only while it is UP, each
line's debounce timer running exactly while its two levels differ, and the retention well intact while the main well
runs. -/
def Obligations.MainWellStaysLawful : Prop :=
  ∀ (s s' : State) (m' : Main), Inv s → step s = .next s' → s'.well = .running m' →
    MainTables m' ∧ MainLimits m' ∧ OverlaysApart s'.ret m' ∧ LinkInStep m' ∧ LinesDebounced m' ∧
      s'.ret.intact = true

/-- Every step keeps each drop within its bound: queued requests, a call in flight and pending answers are at most 4, and
an outstanding poll left room for the answer to its reply. -/
def Obligations.DropsStayBounded : Prop :=
  ∀ (s s' : State) (m' : Main), Inv s → step s = .next s' → s'.well = .running m' →
    DropsBounded s'.ret m' ∧ PollsInStep m'

/-- Every step keeps calls in flight apart in number, badge and drop, and a trip reserved exactly for the calls that will
charge one. -/
def Obligations.CallsStayApartAndTripsReserved : Prop :=
  ∀ (s s' : State) (m' : Main), Inv s → step s = .next s' → s'.well = .running m' →
    CallsApart s'.ret m' ∧ TripsReserved s'.ret m'

/-- Every step keeps tickets for entitled credentials only, at most one PENDING and one other for a badge, each link
answered by its call. -/
def Obligations.TicketsStayEntitled : Prop :=
  ∀ (s s' : State) (m' : Main), Inv s → step s = .next s' → s'.well = .running m' → TicketsEntitled s'.ret m'

/-- Every step keeps each group's mode at the one its latch and demands give, and no call or ticket on a group in
RECALL. -/
def Obligations.ModesStayHeldAndRecallClears : Prop :=
  ∀ (s s' : State) (m' : Main), Inv s → step s = .next s' → s'.well = .running m' →
    ModesHeld s'.ret m' ∧ RecallClears m'
end

