-- ==== Sys2Proof/Laws/Tables.lean ====
section
/-! SUPPORT. Laws/Tables.lean: what the table operations do: a read after a write, the keys they leave alone, and the one
form they keep. -/

namespace Sys2Proof.Laws

open Sys2Proof.Machine

variable {α : Type}

/-! ## Reads after writes -/

@[simp] theorem lookup_nil (n : Nat) : Table.lookup ([] : Table α) n = none := rfl

theorem lookup_cons (k : Nat) (v : α) (t : Table α) (n : Nat) :
    Table.lookup ((k, v) :: t) n = if n = k then some v else Table.lookup t n := rfl

@[simp] theorem lookup_put_self (t : Table α) (n : Nat) (v : α) : Table.lookup (Table.put t n v) n = some v := by
  induction t with
  | nil => simp [Table.put, Table.lookup]
  | cons e t ih =>
    obtain ⟨k, w⟩ := e
    unfold Table.put
    split
    · simp [Table.lookup]
    · split
      · simp [Table.lookup]
      · rename_i h
        simp [Table.lookup, h, ih]

theorem lookup_put_ne (t : Table α) (n m : Nat) (v : α) (h : m ≠ n) :
    Table.lookup (Table.put t n v) m = Table.lookup t m := by
  induction t with
  | nil => simp [Table.put, Table.lookup, h]
  | cons e t ih =>
    obtain ⟨k, w⟩ := e
    unfold Table.put
    split
    · simp [Table.lookup, h]
    · split
      · rename_i hk
        subst hk
        simp [Table.lookup, h]
      · simp [Table.lookup, ih]

theorem lookup_put (t : Table α) (n m : Nat) (v : α) :
    Table.lookup (Table.put t n v) m = if m = n then some v else Table.lookup t m := by
  split
  · rename_i h; subst h; simp
  · rename_i h; exact lookup_put_ne t n m v h

@[simp] theorem lookup_erase_self (t : Table α) (n : Nat) : Table.lookup (Table.erase t n) n = none := by
  induction t with
  | nil => rfl
  | cons e t ih =>
    obtain ⟨k, w⟩ := e
    unfold Table.erase at ih ⊢
    rw [List.filter_cons]
    split
    · rename_i h
      have h' : n ≠ k := fun hn => by simp [hn] at h
      rw [lookup_cons, if_neg h']
      exact ih
    · exact ih

theorem lookup_erase_ne (t : Table α) (n m : Nat) (h : m ≠ n) :
    Table.lookup (Table.erase t n) m = Table.lookup t m := by
  induction t with
  | nil => rfl
  | cons e t ih =>
    obtain ⟨k, w⟩ := e
    unfold Table.erase at ih ⊢
    rw [List.filter_cons]
    split
    · rw [lookup_cons, lookup_cons, ih]
    · rename_i hk
      have hk' : k = n := by simpa using hk
      rw [ih, lookup_cons, if_neg (by rw [hk']; exact h)]

theorem lookup_erase (t : Table α) (n m : Nat) :
    Table.lookup (Table.erase t n) m = if m = n then none else Table.lookup t m := by
  split
  · rename_i h; subst h; simp
  · rename_i h; exact lookup_erase_ne t n m h

@[simp] theorem get_set_self [DecidableEq α] (d : α) (t : Table α) (n : Nat) (v : α) :
    Table.get d (Table.set d t n v) n = v := by
  unfold Table.get Table.set
  split
  · rename_i h; simp [h]
  · simp

theorem get_set_ne [DecidableEq α] (d : α) (t : Table α) (n m : Nat) (v : α) (h : m ≠ n) :
    Table.get d (Table.set d t n v) m = Table.get d t m := by
  unfold Table.get Table.set
  split
  · rw [lookup_erase_ne t n m h]
  · rw [lookup_put_ne t n m v h]

theorem get_set [DecidableEq α] (d : α) (t : Table α) (n m : Nat) (v : α) :
    Table.get d (Table.set d t n v) m = if m = n then v else Table.get d t m := by
  split
  · rename_i h; subst h; simp
  · rename_i h; exact get_set_ne d t n m v h

theorem lookup_assign (t : Table α) (n m : Nat) (o : Option α) :
    Table.lookup (Table.assign t n o) m = if m = n then o else Table.lookup t m := by
  cases o with
  | none => simp [Table.assign, lookup_erase]
  | some v => simp [Table.assign, lookup_put]

/-! ## Entries -/

theorem mem_of_lookup {t : Table α} {n : Nat} {v : α} (h : Table.lookup t n = some v) : (n, v) ∈ t := by
  induction t with
  | nil => simp at h
  | cons e t ih =>
    obtain ⟨k, w⟩ := e
    rw [lookup_cons] at h
    split at h
    · rename_i hk
      simp_all
    · exact List.mem_cons_of_mem _ (ih h)

theorem lookup_of_mem {t : Table α} (hs : Table.sorted t) {n : Nat} {v : α} (h : (n, v) ∈ t) :
    Table.lookup t n = some v := by
  induction t with
  | nil => simp at h
  | cons e t ih =>
    obtain ⟨k, w⟩ := e
    rw [lookup_cons]
    rcases List.mem_cons.1 h with h | h
    · simp_all
    · have hlt : k < n := (List.pairwise_cons.1 hs).1 _ h
      rw [if_neg (by omega)]
      exact ih (List.pairwise_cons.1 hs).2 h

theorem mem_put {t : Table α} {n : Nat} {v : α} {e : Nat × α} (h : e ∈ Table.put t n v) : e = (n, v) ∨ e ∈ t := by
  induction t with
  | nil => simpa [Table.put] using h
  | cons f t ih =>
    obtain ⟨k, w⟩ := f
    unfold Table.put at h
    split at h
    · rcases List.mem_cons.1 h with h | h
      · exact .inl h
      · exact .inr h
    · split at h
      · rcases List.mem_cons.1 h with h | h
        · exact .inl h
        · exact .inr (List.mem_cons_of_mem _ h)
      · rcases List.mem_cons.1 h with h | h
        · exact .inr (by rw [h]; exact List.mem_cons_self)
        · rcases ih h with h | h
          · exact .inl h
          · exact .inr (List.mem_cons_of_mem _ h)

theorem mem_erase {t : Table α} {n : Nat} {e : Nat × α} : e ∈ Table.erase t n ↔ e ∈ t ∧ e.1 ≠ n := by
  unfold Table.erase
  simp [List.mem_filter]

theorem length_put_le (t : Table α) (n : Nat) (v : α) : (Table.put t n v).length ≤ t.length + 1 := by
  induction t with
  | nil => simp [Table.put]
  | cons e t ih =>
    obtain ⟨k, w⟩ := e
    unfold Table.put
    split
    · simp
    · split
      · simp
      · simpa using ih

theorem length_erase_le (t : Table α) (n : Nat) : (Table.erase t n).length ≤ t.length := List.length_filter_le _ _

/-! ## The one form -/

theorem sorted_put {t : Table α} (hs : Table.sorted t) (n : Nat) (v : α) : Table.sorted (Table.put t n v) := by
  induction t with
  | nil => simp [Table.put, Table.sorted]
  | cons e t ih =>
    obtain ⟨k, w⟩ := e
    have hk := List.pairwise_cons.1 hs
    unfold Table.put
    split
    · rename_i hlt
      refine List.pairwise_cons.2 ⟨?_, hs⟩
      intro f hf
      rcases List.mem_cons.1 hf with hf | hf
      · rw [hf]; exact hlt
      · exact Nat.lt_trans hlt (hk.1 f hf)
    · split
      · rename_i he
        refine List.pairwise_cons.2 ⟨?_, hk.2⟩
        intro f hf
        have := hk.1 f hf
        simpa [he] using this
      · refine List.pairwise_cons.2 ⟨?_, ih hk.2⟩
        intro f hf
        rcases mem_put hf with hf | hf
        · rw [hf]; simp only; omega
        · exact hk.1 f hf

theorem sorted_erase {t : Table α} (hs : Table.sorted t) (n : Nat) : Table.sorted (Table.erase t n) :=
  List.Pairwise.filter _ hs

theorem sorted_assign {t : Table α} (hs : Table.sorted t) (n : Nat) (o : Option α) : Table.sorted (Table.assign t n o) := by
  cases o with
  | none => exact sorted_erase hs n
  | some v => exact sorted_put hs n v

theorem canonical_set [DecidableEq α] {d : α} {t : Table α} (h : Table.canonical d t) (n : Nat) (v : α) :
    Table.canonical d (Table.set d t n v) := by
  unfold Table.set
  split
  · exact ⟨sorted_erase h.1 n, fun e he => h.2 e (mem_erase.1 he).1⟩
  · rename_i hv
    refine ⟨sorted_put h.1 n v, fun e he => ?_⟩
    rcases mem_put he with he | he
    · rw [he]; exact hv
    · exact h.2 e he

theorem keysWithin_put {t : Table α} {low high : Nat} (h : Safety.keysWithin t low high) {n : Nat} (hn : low ≤ n ∧ n ≤ high)
    (v : α) : Safety.keysWithin (Table.put t n v) low high := by
  intro e he
  rcases mem_put he with he | he
  · rw [he]; exact hn
  · exact h e he

theorem keysWithin_erase {t : Table α} {low high : Nat} (h : Safety.keysWithin t low high) (n : Nat) :
    Safety.keysWithin (Table.erase t n) low high := fun e he => h e (mem_erase.1 he).1

/-! ## The next entry -/

theorem next_some {t : Table α} {n : Nat} {e : Nat × α} (h : Table.next t n = some e) : e ∈ t ∧ n < e.1 := by
  unfold Table.next at h
  exact ⟨List.mem_of_find?_eq_some h, by simpa using List.find?_some h⟩

theorem next_none {t : Table α} {n : Nat} (h : Table.next t n = none) : ∀ e ∈ t, e.1 ≤ n := by
  unfold Table.next at h
  intro e he
  have := List.find?_eq_none.1 h e he
  simpa using this

end Sys2Proof.Laws
end

