-- ==== Sys2Proof/Laws/State.lean ====
section
/-! SUPPORT. Laws/State.lean: one lemma for each well an update touches, so that no later proof unfolds a record update. -/

namespace Sys2Proof.Laws

open Sys2Proof.Machine

variable (p : Part) (s : State)

/-! ## The whole part -/

@[simp] theorem withPart_ret : (s.withPart p).ret = p.ret := rfl
@[simp] theorem withPart_well : (s.withPart p).well = .running p.main := rfl
@[simp] theorem withPart_mainOk : (s.withPart p).mainOk = s.mainOk := rfl
@[simp] theorem withPart_resetReleased : (s.withPart p).resetReleased = s.resetReleased := rfl
@[simp] theorem withPart_retentionSupply : (s.withPart p).retentionSupply = s.retentionSupply := rfl
@[simp] theorem withPart_pending : (s.withPart p).pending = s.pending := rfl

/-! ## Updates of the retention well -/

@[simp] theorem withCreds_ret (t : Table Cred) : (p.withCreds t).ret = { p.ret with creds := t } := rfl
@[simp] theorem withCreds_main (t : Table Cred) : (p.withCreds t).main = p.main := rfl
@[simp] theorem withTenants_ret (t : Table Tenant) : (p.withTenants t).ret = { p.ret with tenants := t } := rfl
@[simp] theorem withTenants_main (t : Table Tenant) : (p.withTenants t).main = p.main := rfl
@[simp] theorem withPurge_ret (w : PurgeWalker) : (p.withPurge w).ret = { p.ret with purge := w } := rfl
@[simp] theorem withPurge_main (w : PurgeWalker) : (p.withPurge w).main = p.main := rfl
@[simp] theorem withSweep_ret (w : SweepWalker) : (p.withSweep w).ret = { p.ret with sweep := w } := rfl
@[simp] theorem withSweep_main (w : SweepWalker) : (p.withSweep w).main = p.main := rfl
@[simp] theorem withLatches_ret (l : Set8) : (p.withLatches l).ret = { p.ret with latches := l } := rfl
@[simp] theorem withLatches_main (l : Set8) : (p.withLatches l).main = p.main := rfl
@[simp] theorem withLineStatus_ret (l : Set8) : (p.withLineStatus l).ret = { p.ret with lineStatus := l } := rfl
@[simp] theorem withLineStatus_main (l : Set8) : (p.withLineStatus l).main = p.main := rfl

/-! ## Updates of the main well -/

@[simp] theorem withOverlays_ret (t : Table Overlay) : (p.withOverlays t).ret = p.ret := rfl
@[simp] theorem withOverlays_main (t : Table Overlay) : (p.withOverlays t).main = { p.main with overlays := t } := rfl
@[simp] theorem withCalls_ret (t : Table Call) : (p.withCalls t).ret = p.ret := rfl
@[simp] theorem withCalls_main (t : Table Call) : (p.withCalls t).main = { p.main with calls := t } := rfl
@[simp] theorem withTickets_ret (l : List Ticket) : (p.withTickets l).ret = p.ret := rfl
@[simp] theorem withTickets_main (l : List Ticket) : (p.withTickets l).main = { p.main with tickets := l } := rfl
@[simp] theorem withDrops_ret (t : Table DropLive) : (p.withDrops t).ret = p.ret := rfl
@[simp] theorem withDrops_main (t : Table DropLive) : (p.withDrops t).main = { p.main with drops := t } := rfl
@[simp] theorem withLinks_ret (t : Table PanelLink) : (p.withLinks t).ret = p.ret := rfl
@[simp] theorem withLinks_main (t : Table PanelLink) : (p.withLinks t).main = { p.main with links := t } := rfl
@[simp] theorem withSendQueue_ret (l : List DispatcherFrame) : (p.withSendQueue l).ret = p.ret := rfl
@[simp] theorem withSendQueue_main (l : List DispatcherFrame) :
    (p.withSendQueue l).main = { p.main with sendQueue := l } := rfl
@[simp] theorem withModes_ret (t : Table Mode) : (p.withModes t).ret = p.ret := rfl
@[simp] theorem withModes_main (t : Table Mode) : (p.withModes t).main = { p.main with modes := t } := rfl
@[simp] theorem withMgmt_ret (m : MgmtState) : (p.withMgmt m).ret = p.ret := rfl
@[simp] theorem withMgmt_main (m : MgmtState) : (p.withMgmt m).main = { p.main with mgmt := m } := rfl
@[simp] theorem withEnables_ret (e : Half) : (p.withEnables e).ret = p.ret := rfl
@[simp] theorem withEnables_main (e : Half) : (p.withEnables e).main = { p.main with enables := e } := rfl
@[simp] theorem withLink_ret (l : LinkState) (n : Nat) : (p.withLink l n).ret = p.ret := rfl
@[simp] theorem withLink_main (l : LinkState) (n : Nat) :
    (p.withLink l n).main = { p.main with link := l, aliveRun := n } := rfl
@[simp] theorem hunt_ret (w : Wire) : (p.hunt w).ret = p.ret := rfl
@[simp] theorem hunt_main (w : Wire) :
    (p.hunt w).main = { p.main with receiving := setPut p.main.receiving (wireIndex w) false } := rfl
@[simp] theorem markLate_ret (l : Nat) (b : Bool) : (p.markLate l b).ret = p.ret := rfl
@[simp] theorem markLate_main (l : Nat) (b : Bool) :
    (p.markLate l b).main = { p.main with late := setPut p.main.late l b } := rfl
@[simp] theorem reply_ret (r : Reply) : (p.reply r).ret = p.ret := rfl
@[simp] theorem reply_main (r : Reply) : (p.reply r).main = { p.main with mgmt := .replying r } := rfl
@[simp] theorem setDrop_ret (i : Nat) (d : DropLive) : (p.setDrop i d).ret = p.ret := rfl
@[simp] theorem setDrop_main (i : Nat) (d : DropLive) :
    (p.setDrop i d).main = { p.main with drops := Table.set .unconfigured p.main.drops i d } := rfl
@[simp] theorem setLink_ret (l : Nat) (k : PanelLink) : (p.setLink l k).ret = p.ret := rfl
@[simp] theorem setLink_main (l : Nat) (k : PanelLink) :
    (p.setLink l k).main = { p.main with links := Table.set .fresh p.main.links l k } := rfl
@[simp] theorem setLine_ret (n : Nat) (l : LineLive) : (p.setLine n l).ret = p.ret := rfl
@[simp] theorem setLine_main (n : Nat) (l : LineLive) :
    (p.setLine n l).main = { p.main with lines := Table.set .quiet p.main.lines n l } := rfl
@[simp] theorem putMode_ret (g : Nat) (k : Mode) : (p.putMode g k).ret = p.ret := rfl
@[simp] theorem putMode_main (g : Nat) (k : Mode) :
    (p.putMode g k).main = { p.main with modes := Table.set .normal p.main.modes g k } := rfl
@[simp] theorem free_ret (k : Nat) : (p.free k).ret = p.ret := rfl
@[simp] theorem free_main (k : Nat) : (p.free k).main = { p.main with calls := Table.erase p.main.calls k } := rfl
@[simp] theorem raisePanelDown_ret : p.raisePanelDown.ret = p.ret := rfl
@[simp] theorem raisePanelDown_main : p.raisePanelDown.main = { p.main with panelDown := true } := rfl
@[simp] theorem raisePurgeDone_ret : p.raisePurgeDone.ret = p.ret := rfl
@[simp] theorem raisePurgeDone_main : p.raisePurgeDone.main = { p.main with purgeDone := true } := rfl
@[simp] theorem raiseSweepDone_ret : p.raiseSweepDone.ret = p.ret := rfl
@[simp] theorem raiseSweepDone_main : p.raiseSweepDone.main = { p.main with sweepDone := true } := rfl
@[simp] theorem raisePoolFull_ret : p.raisePoolFull.ret = p.ret := rfl
@[simp] theorem raisePoolFull_main : p.raisePoolFull.main = { p.main with poolFull := true } := rfl

end Sys2Proof.Laws
end

