-- ==== Sys2Proof/Laws/Ops.lean ====
section
/-! SUPPORT. Laws/Ops.lean: for each shared operation, once, everything it can do and all it leaves alone. -/

namespace Sys2Proof.Laws

open Sys2Proof.Machine

/-! ## The main well runs or not -/

theorem whileRunning_running {s : State} {m : Main} (h : s.well = .running m) (f : Part → Part) :
    whileRunning s f = .next (s.withPart (f ⟨s.ret, m⟩)) := by
  unfold whileRunning; rw [h]

theorem whileRunning_off {s : State} (h : s.well = .off) (f : Part → Part) : whileRunning s f = .next s := by
  unfold whileRunning; rw [h]

theorem whileRunning_qualifying {s : State} (h : s.well = .qualifying) (f : Part → Part) : whileRunning s f = .next s := by
  unfold whileRunning; rw [h]

/-- What an event of the main well can do: answer a next state, whose queue and pins are as before. -/
theorem whileRunning_next (s : State) (f : Part → Part) :
    ∃ t, whileRunning s f = .next t ∧ t.pending = s.pending ∧ t.mainOk = s.mainOk ∧
      t.resetReleased = s.resetReleased ∧ t.retentionSupply = s.retentionSupply := by
  unfold whileRunning
  split
  · exact ⟨_, rfl, rfl, rfl, rfl, rfl⟩
  · exact ⟨s, rfl, rfl, rfl, rfl, rfl⟩
  · exact ⟨s, rfl, rfl, rfl, rfl, rfl⟩

/-! ## Management commands (R184 to R186) -/

section command
variable {α : Type} {s : State} {m : Main} (kind tag : Byte) (act : α → Part → Taken)

theorem command_ready (h : s.well = .running m) (hr : m.mgmt = .ready) (f : α) :
    command kind tag (.read f) act s =
      .next (s.withPart ((act f (Part.hunt ⟨s.ret, m⟩ .management)).part.reply
        ⟨kind, tag, (act f (Part.hunt ⟨s.ret, m⟩ .management)).status, (act f (Part.hunt ⟨s.ret, m⟩ .management)).results⟩)) := by
  unfold command
  rw [whileRunning_running h]
  simp [Part.takeCommand, hr]

theorem command_malformed (h : s.well = .running m) (hr : m.mgmt = .ready) :
    command kind tag (.malformed : Body α) act s =
      .next (s.withPart ((Part.hunt ⟨s.ret, m⟩ .management).reply ⟨kind, tag, .badValue, .nothing⟩)) := by
  unfold command
  rw [whileRunning_running h]
  simp [Part.takeCommand, hr]

theorem command_replying (h : s.well = .running m) {r : Reply} (hr : m.mgmt = .replying r) (body : Body α) :
    command kind tag body act s = .next (s.withPart ((Part.hunt ⟨s.ret, m⟩ .management).overrunBy tag)) := by
  unfold command
  rw [whileRunning_running h]
  simp [Part.takeCommand, hr]

theorem command_closed (h : s.well = .running m) (hr : m.mgmt = .closed) (body : Body α) :
    command kind tag body act s = .next (s.withPart (Part.hunt ⟨s.ret, m⟩ .management)) := by
  unfold command
  rw [whileRunning_running h]
  simp [Part.takeCommand, hr]

end command

variable (p : Part)

/-! ## The send queue (R133) -/

/-- Asking for a frame changes the send queue alone: the frame joins it, or is discarded while it holds 64. -/
theorem send_spec (f : DispatcherFrame) :
    p.send f = p.withSendQueue
      (if p.main.sendQueue.length < Config.sendQueue then p.main.sendQueue ++ [f] else p.main.sendQueue) := by
  unfold Part.send
  split <;> rfl

@[simp] theorem send_ret (f : DispatcherFrame) : (p.send f).ret = p.ret := by rw [send_spec]; rfl

theorem send_main (f : DispatcherFrame) : (p.send f).main =
    { p.main with sendQueue :=
        if p.main.sendQueue.length < Config.sendQueue then p.main.sendQueue ++ [f] else p.main.sendQueue } := by
  rw [send_spec]; rfl

theorem send_within (f : DispatcherFrame) (h : p.main.sendQueue.length ≤ Config.sendQueue) :
    (p.send f).main.sendQueue.length ≤ Config.sendQueue := by
  rw [send_main]
  by_cases hl : p.main.sendQueue.length < Config.sendQueue
  · simp only [hl, if_true, List.length_append, List.length_singleton]; omega
  · simp only [hl, if_false]; exact h

@[simp] theorem notice_ret (g : Nat) : (p.notice g).ret = p.ret := by simp [Part.notice]

theorem notice_main (g : Nat) : (p.notice g).main = { p.main with sendQueue := (p.notice g).main.sendQueue } := by
  unfold Part.notice; rw [send_main]

/-! ## Drops -/

@[simp] theorem drop_setDrop_self (i : Nat) (d : DropLive) : (p.setDrop i d).drop i = d := by simp [Part.drop]

theorem drop_setDrop_ne {i j : Nat} (h : j ≠ i) (d : DropLive) : (p.setDrop i d).drop j = p.drop j := by
  simp [Part.drop, get_set_ne _ _ _ _ _ h]

/-- An answer joins the list of an UP drop and is lost at any other (R120, R121, R166). -/
theorem tell_spec (i : Nat) (a : Answer) :
    p.tell i a = if (p.drop i).state = .up then
      p.setDrop i { p.drop i with answers := (p.drop i).answers ++ [⟨a, false⟩] } else p := rfl

@[simp] theorem tell_ret (i : Nat) (a : Answer) : (p.tell i a).ret = p.ret := by
  rw [tell_spec]; split <;> rfl

theorem tell_main (i : Nat) (a : Answer) : (p.tell i a).main = { p.main with drops := (p.tell i a).main.drops } := by
  rw [tell_spec]; split <;> rfl

/-! ## Records and counts -/

/-- A request to rewrite a record changes that record alone, and nothing when it is absent. -/
theorem modCred_spec (b : Badge) (f : Cred → Cred) :
    (p.modCred b f).main = p.main ∧ (p.modCred b f).ret = { p.ret with creds := (p.modCred b f).ret.creds } ∧
      (p.modCred b f).cred b = (p.cred b).map f := by
  unfold Part.modCred
  cases h : p.cred b with
  | none => exact ⟨rfl, rfl, h⟩
  | some c => exact ⟨rfl, rfl, by simp [Part.cred]⟩

theorem modCred_cred_ne {b b' : Badge} (h : b' ≠ b) (f : Cred → Cred) : (p.modCred b f).cred b' = p.cred b' := by
  unfold Part.modCred
  cases p.cred b with
  | none => rfl
  | some c =>
    have : b'.toNat ≠ b.toNat := fun e => h (BitVec.eq_of_toNat_eq e)
    simp [Part.cred, lookup_put_ne _ _ _ _ this]

/-- A request to rewrite a tenant's record changes that record alone, and nothing when the entry is FREE. -/
theorem modTenant_spec (t : Byte) (f : Tenant → Tenant) :
    (p.modTenant t f).main = p.main ∧ (p.modTenant t f).ret = { p.ret with tenants := (p.modTenant t f).ret.tenants } ∧
      (p.modTenant t f).tenant t = (p.tenant t).map f := by
  unfold Part.modTenant
  cases h : p.tenant t with
  | none => exact ⟨rfl, rfl, h⟩
  | some r => exact ⟨rfl, rfl, by simp [Part.tenant]⟩

theorem modTenant_tenant_ne {t t' : Byte} (h : t' ≠ t) (f : Tenant → Tenant) : (p.modTenant t f).tenant t' = p.tenant t' := by
  unfold Part.modTenant
  cases p.tenant t with
  | none => rfl
  | some r =>
    have : t'.toNat ≠ t.toNat := fun e => h (BitVec.eq_of_toNat_eq e)
    simp [Part.tenant, lookup_put_ne _ _ _ _ this]

theorem countUp_frame (t : Byte) :
    (p.countUp t).main = p.main ∧ (p.countUp t).ret = { p.ret with tenants := (p.countUp t).ret.tenants } := by
  unfold Part.countUp
  split
  · exact ⟨rfl, rfl⟩
  · exact ⟨(modTenant_spec p t _).1, (modTenant_spec p t _).2.1⟩

theorem countDown_frame (t : Byte) :
    (p.countDown t).main = p.main ∧ (p.countDown t).ret = { p.ret with tenants := (p.countDown t).ret.tenants } := by
  unfold Part.countDown
  split
  · exact ⟨rfl, rfl⟩
  · exact ⟨(modTenant_spec p t _).1, (modTenant_spec p t _).2.1⟩

theorem chargeFor_frame (c : Call) :
    (p.chargeFor c).main = p.main ∧ (p.chargeFor c).ret = { p.ret with creds := (p.chargeFor c).ret.creds } := by
  unfold Part.chargeFor
  split
  · exact ⟨(modCred_spec p _ _).1, (modCred_spec p _ _).2.1⟩
  · exact ⟨rfl, rfl⟩

theorem releaseFor_frame (c : Call) :
    (p.releaseFor c).main = p.main ∧ (p.releaseFor c).ret = { p.ret with creds := (p.releaseFor c).ret.creds } := by
  unfold Part.releaseFor
  split
  · exact ⟨(modCred_spec p _ _).1, (modCred_spec p _ _).2.1⟩
  · exact ⟨rfl, rfl⟩

/-! ## Tickets -/

@[simp] theorem removeTickets_ret (gone : Ticket → Bool) : (p.removeTickets gone).ret = p.ret := rfl
@[simp] theorem removeTickets_main (gone : Ticket → Bool) :
    (p.removeTickets gone).main = { p.main with tickets := p.main.tickets.filter fun t => !gone t } := rfl

/-- The ticket item of an assignment changes the pool alone. -/
theorem assignTicket_frame (b : Option Badge) (l : CallLink) :
    (p.assignTicket b l).ret = p.ret ∧
      (p.assignTicket b l).main = { p.main with tickets := (p.assignTicket b l).main.tickets } := by
  unfold Part.assignTicket
  split
  · exact ⟨rfl, rfl⟩
  · split
    · split <;> exact ⟨rfl, rfl⟩
    · exact ⟨rfl, rfl⟩
    · exact ⟨rfl, rfl⟩

@[simp] theorem unwindTicket_ret (l : CallLink) : (p.unwindTicket l).ret = p.ret := rfl
@[simp] theorem unwindTicket_main (l : CallLink) :
    (p.unwindTicket l).main = { p.main with tickets := p.main.tickets.filterMap (unwoundTicket p.main.now l) } := rfl

/-- The retirement path of a present record: the record goes, its tickets go, its tenant's count falls (R14). -/
theorem retire_present {b : Badge} {c : Cred} (h : p.cred b = some c) :
    p.retire b = ((p.withCreds (Table.erase p.ret.creds b.toNat)).removeBadgeTickets b).countDown c.tenant := by
  unfold Part.retire; rw [h]

/-- The retirement path changes records, tenants and tickets alone. -/
theorem retire_frame (b : Badge) :
    (p.retire b).ret = { p.ret with creds := (p.retire b).ret.creds, tenants := (p.retire b).ret.tenants } ∧
      (p.retire b).main = { p.main with tickets := (p.retire b).main.tickets } := by
  unfold Part.retire
  cases p.cred b with
  | none => exact ⟨rfl, rfl⟩
  | some c =>
    dsimp only
    generalize hq : (p.withCreds (Table.erase p.ret.creds b.toNat)).removeBadgeTickets b = q
    obtain ⟨h1, h2⟩ := countDown_frame q c.tenant
    rw [h2, h1, ← hq]
    exact ⟨rfl, rfl⟩

/-! ## The endings of a call -/

theorem remember_frame (c : Call) (car : Byte) :
    (p.remember c car).ret = p.ret ∧
      (p.remember c car).main = { p.main with drops := (p.remember c car).main.drops } := by
  unfold Part.remember
  cases c.badge with
  | none => exact ⟨rfl, rfl⟩
  | some b =>
    dsimp only
    split <;> exact ⟨rfl, rfl⟩

/-- An unwinding ending changes records, tickets, drops and the call's own slot, which becomes FREE (R121). -/
theorem unwind_frame (slot : Nat) (c : Call) (why : NoService) :
    (p.unwind slot c why).ret = { p.ret with creds := (p.unwind slot c why).ret.creds } ∧
      (p.unwind slot c why).main = { p.main with
        tickets := (p.unwind slot c why).main.tickets
        drops := (p.unwind slot c why).main.drops
        calls := Table.erase p.main.calls slot } := by
  unfold Part.unwind
  dsimp only
  obtain ⟨h1, h2⟩ := releaseFor_frame p c
  rw [free_ret, free_main, tell_ret, tell_main, unwindTicket_ret, unwindTicket_main, h1, h2]
  exact ⟨rfl, rfl⟩

/-- An assignment changes records, tickets, drops and the call's own slot, which becomes FREE (R117). -/
theorem assignCall_frame (slot : Nat) (c : Call) (car : Byte) :
    (p.assignCall slot c car).ret = { p.ret with creds := (p.assignCall slot c car).ret.creds } ∧
      (p.assignCall slot c car).main = { p.main with
        tickets := (p.assignCall slot c car).main.tickets
        drops := (p.assignCall slot c car).main.drops
        calls := Table.erase p.main.calls slot } := by
  unfold Part.assignCall
  dsimp only
  obtain ⟨h1, h2⟩ := chargeFor_frame p c
  obtain ⟨h3, h4⟩ := assignTicket_frame (p.chargeFor c) c.badge ⟨c.number, slot⟩
  obtain ⟨h5, h6⟩ := remember_frame ((p.chargeFor c).assignTicket c.badge ⟨c.number, slot⟩) c car
  rw [free_ret, free_main, tell_ret, tell_main, h6, h5, h4, h3, h1, h2]
  exact ⟨rfl, rfl⟩

/-! ## Modes -/

/-- Cancelling one call of a recalled group changes records, the send queue, tickets, drops and that call's slot (R124). -/
theorem cancelCall_frame (e : Nat × Call) :
    (p.cancelCall e).ret = { p.ret with creds := (p.cancelCall e).ret.creds } ∧
      (p.cancelCall e).main = { p.main with
        sendQueue := (p.cancelCall e).main.sendQueue
        tickets := (p.cancelCall e).main.tickets
        drops := (p.cancelCall e).main.drops
        calls := Table.erase p.main.calls e.1 } := by
  unfold Part.cancelCall
  obtain ⟨h1, h2⟩ := unwind_frame (p.send (.callCancel e.2.number)) e.1 e.2 .cancelled
  rw [h1, h2, send_ret, send_main]
  exact ⟨rfl, rfl⟩

/-- What a run of cancellations can change. -/
theorem cancelFold_frame (l : List (Nat × Call)) :
    (l.foldl Part.cancelCall p).ret = { p.ret with creds := (l.foldl Part.cancelCall p).ret.creds } ∧
      (l.foldl Part.cancelCall p).main = { p.main with
        sendQueue := (l.foldl Part.cancelCall p).main.sendQueue
        tickets := (l.foldl Part.cancelCall p).main.tickets
        drops := (l.foldl Part.cancelCall p).main.drops
        calls := (l.foldl Part.cancelCall p).main.calls } := by
  induction l generalizing p with
  | nil => exact ⟨rfl, rfl⟩
  | cons e l ih =>
    obtain ⟨h1, h2⟩ := ih (p.cancelCall e)
    obtain ⟨h3, h4⟩ := cancelCall_frame p e
    simp only [List.foldl_cons]
    rw [h1, h2, h3, h4]
    exact ⟨rfl, rfl⟩

/-- A change of mode changes the held mode, the send queue and, for RECALL, calls, records, tickets and drops (R179). -/
theorem changeMode_frame (g : Nat) (k : Mode) :
    (p.changeMode g k).ret = { p.ret with creds := (p.changeMode g k).ret.creds } ∧
      (p.changeMode g k).main = { p.main with
        modes := Table.set .normal p.main.modes g k
        sendQueue := (p.changeMode g k).main.sendQueue
        tickets := (p.changeMode g k).main.tickets
        drops := (p.changeMode g k).main.drops
        calls := (p.changeMode g k).main.calls } := by
  unfold Part.changeMode
  dsimp only
  split
  · unfold Part.removeGroupTickets Part.cancelCalls
    obtain ⟨h1, h2⟩ := cancelFold_frame ((p.putMode g k).notice g)
      (((p.putMode g k).notice g).main.calls.filter fun e => decide (e.2.group = byte g))
    rw [removeTickets_ret, removeTickets_main, h1, h2, notice_ret, notice_main]
    exact ⟨rfl, rfl⟩
  · rw [notice_ret, notice_main]
    exact ⟨rfl, rfl⟩

/-- The latch of a group is set while a RECALL demand is held, and nothing else changes (R176). -/
theorem latch_spec (g : Nat) :
    (p.latch g).main = p.main ∧
      (p.latch g).ret = { p.ret with latches :=
        (if p.holds g Mode.recalled = true then setPut p.ret.latches g true else p.ret.latches) } := by
  unfold Part.latch
  split <;> exact ⟨rfl, rfl⟩

/-- Recomputing a group changes its latch and held mode, and what a change of mode changes (R178, R179). -/
theorem refreshGroup_frame (g : Nat) :
    (p.refreshGroup g).ret = { p.ret with
        creds := (p.refreshGroup g).ret.creds, latches := (p.refreshGroup g).ret.latches } ∧
      (p.refreshGroup g).main = { p.main with
        modes := (p.refreshGroup g).main.modes
        sendQueue := (p.refreshGroup g).main.sendQueue
        tickets := (p.refreshGroup g).main.tickets
        drops := (p.refreshGroup g).main.drops
        calls := (p.refreshGroup g).main.calls } := by
  unfold Part.refreshGroup
  dsimp only
  obtain ⟨h1, h2⟩ := latch_spec p g
  split
  · rw [h1, h2]; exact ⟨rfl, rfl⟩
  · obtain ⟨h3, h4⟩ := changeMode_frame (p.latch g) g ((p.latch g).effectiveMode g)
    rw [h3, h4, h1, h2]
    exact ⟨rfl, rfl⟩

/-- What a run of recomputed groups can change. -/
theorem refreshFold_frame (l : List Nat) :
    (l.foldl Part.refreshGroup p).ret = { p.ret with
        creds := (l.foldl Part.refreshGroup p).ret.creds, latches := (l.foldl Part.refreshGroup p).ret.latches } ∧
      (l.foldl Part.refreshGroup p).main = { p.main with
        modes := (l.foldl Part.refreshGroup p).main.modes
        sendQueue := (l.foldl Part.refreshGroup p).main.sendQueue
        tickets := (l.foldl Part.refreshGroup p).main.tickets
        drops := (l.foldl Part.refreshGroup p).main.drops
        calls := (l.foldl Part.refreshGroup p).main.calls } := by
  induction l generalizing p with
  | nil => exact ⟨rfl, rfl⟩
  | cons g l ih =>
    obtain ⟨h1, h2⟩ := ih (p.refreshGroup g)
    obtain ⟨h3, h4⟩ := refreshGroup_frame p g
    simp only [List.foldl_cons]
    rw [h1, h2, h3, h4]
    exact ⟨rfl, rfl⟩

/-- Recomputing every group changes latches, held modes, and what a change of mode changes. -/
theorem refreshAll_frame :
    p.refreshAll.ret = { p.ret with creds := p.refreshAll.ret.creds, latches := p.refreshAll.ret.latches } ∧
      p.refreshAll.main = { p.main with
        modes := p.refreshAll.main.modes
        sendQueue := p.refreshAll.main.sendQueue
        tickets := p.refreshAll.main.tickets
        drops := p.refreshAll.main.drops
        calls := p.refreshAll.main.calls } := refreshFold_frame p eight

/-! ## The ends of frames on a panel link (R203, R208) -/

/-- The end of a panel frame leaves its receiver hunting and its late mark clear; then a late frame is discarded, and any
other is judged. -/
theorem panelFrame_spec (link : Fin 6) (judge : Part → Part) :
    (inSet p.main.late link.val = true →
      p.panelFrame link judge = (p.hunt (.panel link)).markLate link.val false) ∧
    (inSet p.main.late link.val = false →
      p.panelFrame link judge = judge ((p.hunt (.panel link)).markLate link.val false)) := by
  unfold Part.panelFrame Part.isLate
  exact ⟨fun h => by simp [h], fun h => by simp [h]⟩

/-! ## Polling -/

/-- Sending a poll changes drops and links alone: it marks the answer it carries (R151, R152). -/
theorem sendPoll_frame (link : Nat) :
    (p.sendPoll link).ret = p.ret ∧
      (p.sendPoll link).main = { p.main with
        drops := (p.sendPoll link).main.drops, links := (p.sendPoll link).main.links } := by
  unfold Part.sendPoll
  dsimp only
  split
  · exact ⟨rfl, rfl⟩
  · split <;> exact ⟨rfl, rfl⟩

theorem mem_polledAddresses (link a : Nat) :
    a ∈ p.polledAddresses link ↔ a < 16 ∧ (Table.lookup p.ret.drops (16 * link + a)).isSome = true := by
  unfold Part.polledAddresses
  rw [List.mem_filter, List.mem_range]
  exact Iff.rfl

/-- The polled addresses rise, so the first that meets a test is the least that meets it. -/
theorem polledAddresses_find {link a : Nat} {test : Nat → Bool} :
    (p.polledAddresses link).find? test = some a ↔
      a ∈ p.polledAddresses link ∧ test a = true ∧ ∀ b ∈ p.polledAddresses link, test b = true → a ≤ b := by
  have least : ∀ c, (p.polledAddresses link).find? test = some c →
      ∀ b ∈ p.polledAddresses link, test b = true → c ≤ b := by
    intro c h b hmem hb
    have rising : (p.polledAddresses link).Pairwise (· < ·) := List.pairwise_lt_range.filter _
    obtain ⟨_, before, after, hl, hbefore⟩ := List.find?_eq_some_iff_append.mp h
    rw [hl] at hmem rising
    rcases List.mem_append.mp hmem with hm | hm
    · have := hbefore b hm
      rw [hb] at this
      cases this
    · rcases List.mem_cons.mp hm with rfl | hm
      · exact le_refl _
      · exact Nat.le_of_lt ((List.pairwise_cons.mp (List.pairwise_append.mp rising).2.1).1 b hm)
  constructor
  · exact fun h => ⟨List.mem_of_find?_eq_some h, List.find?_some h, least a h⟩
  · rintro ⟨hm, ht, hl⟩
    cases h : (p.polledAddresses link).find? test with
    | none => exact absurd ht (List.find?_eq_none.mp h a hm)
    | some c =>
      exact congrArg some (Nat.le_antisymm (least c h a hm ht) (hl c (List.mem_of_find?_eq_some h) (List.find?_some h)))

/-- The address that the statements name as the next one is the address of the next poll (R151). -/
theorem nextAddress_of_nextPolled {link a : Nat}
    (h : Safety.nextPolled (fun b => decide (b < 16) && (Table.lookup p.ret.drops (16 * link + b)).isSome)
      (p.panelLink link).position a) : p.nextAddress link = some a := by
  have mem : ∀ b, b ∈ p.polledAddresses link ↔
      (decide (b < 16) && (Table.lookup p.ret.drops (16 * link + b)).isSome) = true := fun b => by
    rw [mem_polledAddresses, Bool.and_eq_true, decide_eq_true_iff]
  have head : (p.polledAddresses link).head? = (p.polledAddresses link).find? fun _ => true := by
    cases p.polledAddresses link <;> rfl
  obtain ⟨_, hc, h⟩ := h
  have hm := (mem a).mpr hc
  unfold Part.nextAddress
  simp only [head]
  cases hq : (p.panelLink link).position with
  | none =>
    rw [hq] at h
    rcases h with ⟨_, h⟩ | ⟨⟨q, h, _⟩, _⟩
    · exact (polledAddresses_find p).mpr ⟨hm, rfl, fun b hb _ => h b ((mem b).mp hb) (by simp)⟩
    · cases h
  | some q =>
    rw [hq] at h
    rcases h with ⟨hqa, h⟩ | ⟨⟨q', hq', hle⟩, h⟩
    · have := (polledAddresses_find p (test := fun b => decide (q < b))).mpr
        ⟨hm, decide_eq_true (hqa q rfl), fun b hb hqb =>
          h b ((mem b).mp hb) fun q' e => by cases e; exact of_decide_eq_true hqb⟩
      simp [this]
    · cases hq'
      have none : (p.polledAddresses link).find? (fun b => decide (q < b)) = none :=
        List.find?_eq_none.mpr fun b hb hqb =>
          absurd (hle b ((mem_polledAddresses p link b).mp hb).1 ((mem b).mp hb)) (Nat.not_le.mpr (of_decide_eq_true hqb))
      simp only [none, Option.none_or]
      exact (polledAddresses_find p).mpr ⟨hm, rfl, fun b hb _ => h b ((mem b).mp hb)⟩

/-- With no poll outstanding a link sends its next poll, as the statements say it (R151, R152). -/
theorem sendPoll_spec {link : Nat} (idle : (p.panelLink link).poll = none) :
    Safety.NextPoll link p (p.sendPoll link) := by
  have sends : ∀ a, p.nextAddress link = some a → p.sendPoll link =
      (p.setDrop (dropIndex link a) { p.drop (dropIndex link a) with
        answers := markCarried (p.drop (dropIndex link a)).answers }).setLink link
          ⟨some a, some (pollOf a (p.drop (dropIndex link a)))⟩ := fun a h => by
    unfold Part.sendPoll
    simp [idle, h]
  refine ⟨fun h => ?_, fun a h => ?_, fun l hl => ?_, (sendPoll_frame p link).1, (sendPoll_frame p link).2⟩
  · have empty : p.polledAddresses link = [] :=
      List.eq_nil_iff_forall_not_mem.mpr fun a ha => by
        have := (mem_polledAddresses p link a).mp ha
        rw [h a this.1] at this
        cases this.2
    unfold Part.sendPoll Part.nextAddress
    cases hq : (p.panelLink link).position <;> simp [idle, empty]
  · rw [sends a (nextAddress_of_nextPolled p h)]
    have index : dropIndex link a = 16 * link + a := rfl
    refine ⟨?_, ?_, fun n hn => ?_⟩
    · simp only [Part.panelLink, setLink_main, get_set_self, index]
      unfold pollOf
      cases (p.drop (16 * link + a)).answers <;> rfl
    · exact get_set_self DropLive.unconfigured _ _ _
    · simp only [Part.drop, setLink_main, setDrop_main, index, get_set_ne _ _ _ _ _ hn]
  · cases hn : p.nextAddress link with
    | none => unfold Part.sendPoll; simp [idle, hn]
    | some a => rw [sends a hn]; simp only [Part.panelLink, setLink_main, setDrop_main, get_set_ne _ _ _ _ _ hl]
/-- A drop's configuration rewritten: the drop is reset, no other drop and no link changes, and then the drop's link, when
it has no poll outstanding, sends its next one (R80 to R82, R151). -/
theorem configureDrop_spec (i : Nat) (c : Option DropConfig) :
    ∃ reset : Part, reset.ret = { p.ret with drops := reset.ret.drops } ∧
      reset.main = { p.main with drops := reset.main.drops } ∧
      (∀ n, Table.lookup reset.ret.drops n = if n = i then c else Table.lookup p.ret.drops n) ∧
      reset.drop i = .emptied (if c.isSome then .qualifying else .unconfigured) ∧
      (∀ n, n ≠ i → reset.drop n = p.drop n) ∧
      ((p.panelLink (i / 16)).poll.isSome = true → p.configureDrop i c = reset) ∧
      ((p.panelLink (i / 16)).poll = none → Safety.NextPoll (i / 16) reset (p.configureDrop i c)) := by
  refine ⟨({ p with ret := { p.ret with drops := Table.assign p.ret.drops i c } } : Part).resetDrop i c.isSome, rfl, rfl,
    fun n => lookup_assign _ _ _ _, get_set_self _ _ _ _, fun n hn => get_set_ne _ _ _ _ _ hn, fun h => ?_,
    fun h => sendPoll_spec _ h⟩
  exact if_pos h

theorem endPoll_frame (link : Nat) :
    (p.endPoll link).ret = p.ret ∧
      (p.endPoll link).main = { p.main with
        drops := (p.endPoll link).main.drops, links := (p.endPoll link).main.links } := by
  unfold Part.endPoll
  obtain ⟨h1, h2⟩ := sendPoll_frame (p.setLink link { p.panelLink link with poll := none }) link
  rw [h1, h2]
  exact ⟨rfl, rfl⟩

theorem takeReply_frame (i : Nat) (q : Poll) (r : Option Request) :
    (p.takeReply i q r).ret = p.ret ∧
      (p.takeReply i q r).main = { p.main with drops := (p.takeReply i q r).main.drops } := by
  unfold Part.takeReply
  dsimp only
  split
  · exact ⟨rfl, rfl⟩
  · exact ⟨rfl, rfl⟩
  · split <;> exact ⟨rfl, rfl⟩
  · exact ⟨rfl, rfl⟩

theorem takeMiss_frame (i : Nat) :
    (p.takeMiss i).ret = p.ret ∧
      (p.takeMiss i).main = { p.main with
        drops := (p.takeMiss i).main.drops, panelDown := (p.takeMiss i).main.panelDown } := by
  unfold Part.takeMiss
  dsimp only
  split
  · exact ⟨rfl, rfl⟩
  · exact ⟨rfl, rfl⟩
  · exact ⟨rfl, rfl⟩
  · split <;> exact ⟨rfl, rfl⟩

/-- The end of an outstanding poll as a miss changes drops, links and PANEL_DOWN alone (R156, R157). -/
theorem missPoll_frame (link : Nat) :
    (p.missPoll link).ret = p.ret ∧
      (p.missPoll link).main = { p.main with
        drops := (p.missPoll link).main.drops
        links := (p.missPoll link).main.links
        panelDown := (p.missPoll link).main.panelDown } := by
  unfold Part.missPoll
  split
  · exact ⟨rfl, rfl⟩
  · rename_i poll _
    obtain ⟨h1, h2⟩ := endPoll_frame (p.takeMiss (dropIndex link poll.address)) link
    obtain ⟨h3, h4⟩ := takeMiss_frame p (dropIndex link poll.address)
    rw [h1, h2, h3, h4]
    exact ⟨rfl, rfl⟩

/-- The end of a reply window changes nothing while no window runs; else it marks a frame under way late and ends the
poll as a miss (R153, R208; log 31). -/
theorem windowEnd_spec (link : Fin 6) :
    ((∀ q, (p.panelLink link.val).poll = some q → q.windowRunning = false) → p.windowEnd link = p) ∧
    ((∃ q, (p.panelLink link.val).poll = some q ∧ q.windowRunning = true) →
      p.windowEnd link = (p.markLate link.val (p.isReceiving (.panel link))).missPoll link.val) := by
  unfold Part.windowEnd
  cases h : (p.panelLink link.val).poll with
  | none => simp
  | some q => cases hw : q.windowRunning <;> simp [hw]

end Sys2Proof.Laws
end

