-- ==== Sys2Proof/Laws/Exec.lean ====
section
/-! SUPPORT. Laws/Exec.lean: what each arm of the dispatch comes to: a management command taken by its block, or an event
of the main well. -/

namespace Sys2Proof.Laws

open Sys2Proof.Machine

@[simp] theorem exec_credEnrol (tag : Byte) (body : Body CredImage) (s : State) : exec (.credEnrol tag body) s =
    command 0x01 tag body takeCredEnrol s := rfl
@[simp] theorem exec_credAmend (tag : Byte) (body : Body CredImage) (s : State) : exec (.credAmend tag body) s =
    command 0x02 tag body takeCredAmend s := rfl
@[simp] theorem exec_credSuspend (tag : Byte) (body : Body Badge) (s : State) : exec (.credSuspend tag body) s =
    command 0x03 tag body takeCredSuspend s := rfl
@[simp] theorem exec_credReinstate (tag : Byte) (body : Body Badge) (s : State) : exec (.credReinstate tag body) s =
    command 0x04 tag body takeCredReinstate s := rfl
@[simp] theorem exec_credRetire (tag : Byte) (body : Body Badge) (s : State) : exec (.credRetire tag body) s =
    command 0x05 tag body takeCredRetire s := rfl
@[simp] theorem exec_quotaReload (tag : Byte) (body : Body QuotaFields) (s : State) : exec (.quotaReload tag body) s =
    command 0x06 tag body takeQuotaReload s := rfl
@[simp] theorem exec_credRead (tag : Byte) (body : Body Badge) (s : State) : exec (.credRead tag body) s =
    command 0x07 tag body takeCredRead s := rfl
@[simp] theorem exec_credNext (tag : Byte) (body : Body Badge) (s : State) : exec (.credNext tag body) s =
    command 0x08 tag body takeCredNext s := rfl
@[simp] theorem exec_tenantCreate (tag : Byte) (body : Body TenantFields) (s : State) : exec (.tenantCreate tag body) s =
    command 0x09 tag body takeTenantCreate s := rfl
@[simp] theorem exec_tenantFloors (tag : Byte) (body : Body TenantFields) (s : State) : exec (.tenantFloors tag body) s =
    command 0x0A tag body takeTenantFloors s := rfl
@[simp] theorem exec_tenantSuspend (tag : Byte) (body : Body Byte) (s : State) : exec (.tenantSuspend tag body) s =
    command 0x0B tag body takeTenantSuspend s := rfl
@[simp] theorem exec_tenantReinstate (tag : Byte) (body : Body Byte) (s : State) : exec (.tenantReinstate tag body) s =
    command 0x0C tag body takeTenantReinstate s := rfl
@[simp] theorem exec_tenantPurge (tag : Byte) (body : Body Byte) (s : State) : exec (.tenantPurge tag body) s =
    command 0x0D tag body takeTenantPurge s := rfl
@[simp] theorem exec_tenantRead (tag : Byte) (body : Body Byte) (s : State) : exec (.tenantRead tag body) s =
    command 0x0E tag body takeTenantRead s := rfl
@[simp] theorem exec_overlayOpen (tag : Byte) (body : Body OverlayOpenFields) (s : State) : exec (.overlayOpen tag body) s =
    command 0x0F tag body takeOverlayOpen s := rfl
@[simp] theorem exec_overlayEdit (tag : Byte) (body : Body OverlayEditFields) (s : State) : exec (.overlayEdit tag body) s =
    command 0x10 tag body takeOverlayEdit s := rfl
@[simp] theorem exec_overlayApply (tag : Byte) (body : Body OverlayApplyFields) (s : State) : exec (.overlayApply tag body) s =
    command 0x11 tag body takeOverlayApply s := rfl
@[simp] theorem exec_overlayCommit (tag : Byte) (body : Body Byte) (s : State) : exec (.overlayCommit tag body) s =
    command 0x12 tag body takeOverlayCommit s := rfl
@[simp] theorem exec_overlayDiscard (tag : Byte) (body : Body Byte) (s : State) : exec (.overlayDiscard tag body) s =
    command 0x13 tag body takeOverlayDiscard s := rfl
@[simp] theorem exec_overlayRead (tag : Byte) (body : Body Byte) (s : State) : exec (.overlayRead tag body) s =
    command 0x14 tag body takeOverlayRead s := rfl
@[simp] theorem exec_calSet (tag : Byte) (body : Body CalFields) (s : State) : exec (.calSet tag body) s =
    command 0x15 tag body takeCalSet s := rfl
@[simp] theorem exec_calRead (tag : Byte) (body : Body Unit) (s : State) : exec (.calRead tag body) s =
    command 0x16 tag body (readOnly fun p => .calendar p.ret.calendar p.ret.dayType) s := rfl
@[simp] theorem exec_holidaySet (tag : Byte) (body : Body (List Half)) (s : State) : exec (.holidaySet tag body) s =
    command 0x17 tag body takeHolidaySet s := rfl
@[simp] theorem exec_holidayRead (tag : Byte) (body : Body Unit) (s : State) : exec (.holidayRead tag body) s =
    command 0x18 tag body (readOnly fun p => .holidays p.ret.holidays) s := rfl
@[simp] theorem exec_schedSet (tag : Byte) (body : Body SchedFields) (s : State) : exec (.schedSet tag body) s =
    command 0x19 tag body takeSchedSet s := rfl
@[simp] theorem exec_schedRead (tag : Byte) (body : Body Byte) (s : State) : exec (.schedRead tag body) s =
    command 0x1A tag body takeSchedRead s := rfl
@[simp] theorem exec_paramSet (tag : Byte) (body : Body ParamFields) (s : State) : exec (.paramSet tag body) s =
    command 0x1B tag body takeParamSet s := rfl
@[simp] theorem exec_paramRead (tag : Byte) (body : Body Unit) (s : State) : exec (.paramRead tag body) s =
    command 0x1C tag body (readOnly fun p => .params p.ret.params) s := rfl
@[simp] theorem exec_landingSet (tag : Byte) (body : Body LandingFields) (s : State) : exec (.landingSet tag body) s =
    command 0x1D tag body takeLandingSet s := rfl
@[simp] theorem exec_landingRead (tag : Byte) (body : Body Unit) (s : State) : exec (.landingRead tag body) s =
    command 0x1E tag body
      (readOnly fun p => .landings ((List.range (Config.lastLanding + 1)).map fun n => p.kindOf (byte n))) s := rfl
@[simp] theorem exec_groupSet (tag : Byte) (body : Body GroupFields) (s : State) : exec (.groupSet tag body) s =
    command 0x1F tag body takeGroupSet s := rfl
@[simp] theorem exec_groupClear (tag : Byte) (body : Body Byte) (s : State) : exec (.groupClear tag body) s =
    command 0x20 tag body takeGroupClear s := rfl
@[simp] theorem exec_groupRead (tag : Byte) (body : Body Byte) (s : State) : exec (.groupRead tag body) s =
    command 0x21 tag body takeGroupRead s := rfl
@[simp] theorem exec_transferSet (tag : Byte) (body : Body TransferFields) (s : State) : exec (.transferSet tag body) s =
    command 0x22 tag body takeTransferSet s := rfl
@[simp] theorem exec_transferClear (tag : Byte) (body : Body Byte) (s : State) : exec (.transferClear tag body) s =
    command 0x23 tag body takeTransferClear s := rfl
@[simp] theorem exec_transferRead (tag : Byte) (body : Body Unit) (s : State) : exec (.transferRead tag body) s =
    command 0x24 tag body
      (readOnly fun p => .transfers ((List.range Config.transfers).map fun n => Table.lookup p.ret.transfers n)) s := rfl
@[simp] theorem exec_panelSet (tag : Byte) (body : Body PanelFields) (s : State) : exec (.panelSet tag body) s =
    command 0x25 tag body takePanelSet s := rfl
@[simp] theorem exec_panelRead (tag : Byte) (body : Body Byte) (s : State) : exec (.panelRead tag body) s =
    command 0x26 tag body takePanelRead s := rfl
@[simp] theorem exec_ticketRead (tag : Byte) (body : Body TicketQuery) (s : State) : exec (.ticketRead tag body) s =
    command 0x27 tag body takeTicketRead s := rfl
@[simp] theorem exec_dropRead (tag : Byte) (body : Body Byte) (s : State) : exec (.dropRead tag body) s =
    command 0x28 tag body takeDropRead s := rfl
@[simp] theorem exec_alarmSet (tag : Byte) (body : Body AlarmFields) (s : State) : exec (.alarmSet tag body) s =
    command 0x29 tag body takeAlarmSet s := rfl
@[simp] theorem exec_alarmAck (tag : Byte) (body : Body Set8) (s : State) : exec (.alarmAck tag body) s =
    command 0x2A tag body takeAlarmAck s := rfl
@[simp] theorem exec_alarmRead (tag : Byte) (body : Body Unit) (s : State) : exec (.alarmRead tag body) s =
    command 0x2B tag body (readOnly fun p => .alarms (eight.map p.lineView) p.main.now) s := rfl
@[simp] theorem exec_modeDemand (tag : Byte) (body : Body DemandFields) (s : State) : exec (.modeDemand tag body) s =
    command 0x2C tag body takeModeDemand s := rfl
@[simp] theorem exec_groupResume (tag : Byte) (body : Body Byte) (s : State) : exec (.groupResume tag body) s =
    command 0x2D tag body takeGroupResume s := rfl
@[simp] theorem exec_modeRead (tag : Byte) (body : Body Byte) (s : State) : exec (.modeRead tag body) s =
    command 0x2E tag body takeModeRead s := rfl
@[simp] theorem exec_attnAck (tag : Byte) (body : Body Half) (s : State) : exec (.attnAck tag body) s =
    command 0x2F tag body takeAttnAck s := rfl
@[simp] theorem exec_attnEnable (tag : Byte) (body : Body Half) (s : State) : exec (.attnEnable tag body) s =
    command 0x30 tag body takeAttnEnable s := rfl
@[simp] theorem exec_attnRead (tag : Byte) (body : Body Unit) (s : State) : exec (.attnRead tag body) s =
    command 0x31 tag body (readOnly Part.attentionReply) s := rfl
@[simp] theorem exec_statusRead (tag : Byte) (body : Body Unit) (s : State) : exec (.statusRead tag body) s =
    command 0x32 tag body (readOnly fun p => .status p.statusView) s := rfl
@[simp] theorem exec_callRead (tag : Byte) (body : Body CallQuery) (s : State) : exec (.callRead tag body) s =
    command 0x33 tag body takeCallRead s := rfl
@[simp] theorem exec_restart (tag : Byte) (body : Body Unit) (s : State) : exec (.restart tag body) s =
    command restartKind tag body (fun _ p => done p .nothing) s := rfl
@[simp] theorem exec_commandDuringReply (tag : Byte) (s : State) : exec (.commandDuringReply tag) s =
    whileRunning s fun p => p.duringReply tag := rfl
@[simp] theorem exec_managementFrameDiscarded (s : State) : exec .managementFrameDiscarded s =
    whileRunning s fun p => p.hunt .management := rfl
@[simp] theorem exec_decision (s : State) : exec .decision s =
    whileRunning s Part.decision := rfl
@[simp] theorem exec_callAssigned (number : Half) (car : Byte) (s : State) : exec (.callAssigned number car) s =
    whileRunning s fun p =>
      let q := p.hunt .dispatcher
      if carOk car then q.assigned number car else q := rfl
@[simp] theorem exec_callDeclined (number : Half) (code : Byte) (s : State) : exec (.callDeclined number code) s =
    whileRunning s fun p =>
      let q := p.hunt .dispatcher
      if codeOk code then q.declined number code else q := rfl
@[simp] theorem exec_callTimerExpiry (number : Half) (s : State) : exec (.callTimerExpiry number) s =
    whileRunning s fun p => p.timeout number := rfl
@[simp] theorem exec_dispatchAlive (groups : Set8) (s : State) : exec (.dispatchAlive groups) s =
    whileRunning s fun p => (p.hunt .dispatcher).alive groups := rfl
@[simp] theorem exec_livenessTimerExpiry (s : State) : exec .livenessTimerExpiry s =
    whileRunning s Part.livenessEnd := rfl
@[simp] theorem exec_dispatcherFrameSent (s : State) : exec .dispatcherFrameSent s =
    whileRunning s fun p => p.withSendQueue p.main.sendQueue.tail := rfl
@[simp] theorem exec_dispatcherFrameDiscarded (s : State) : exec .dispatcherFrameDiscarded s =
    whileRunning s fun p => p.hunt .dispatcher := rfl
@[simp] theorem exec_ticketExpiry (badge : Badge) (s : State) : exec (.ticketExpiry badge) s =
    whileRunning s fun p => p.expireTicket badge := rfl
@[simp] theorem exec_validReply (link : Fin 6) (address : Fin 16) (request : Option Request) (s : State) :
    exec (.validReply link address request) s =
    whileRunning s fun p => p.panelFrame link fun q => q.replyFrame link.val address.val request := rfl
@[simp] theorem exec_invalidReply (link : Fin 6) (s : State) : exec (.invalidReply link) s =
    whileRunning s fun p => p.panelFrame link fun q => q.missPoll link.val := rfl
@[simp] theorem exec_replyWindowEnd (link : Fin 6) (s : State) : exec (.replyWindowEnd link) s =
    whileRunning s fun p => p.windowEnd link := rfl
@[simp] theorem exec_unsolicitedPanelFrame (link : Fin 6) (s : State) : exec (.unsolicitedPanelFrame link) s =
    whileRunning s fun p => p.panelFrame link id := rfl
@[simp] theorem exec_frameGapTimeout (wire : Wire) (s : State) : exec (.frameGapTimeout wire) s =
    whileRunning s fun p => if p.isReceiving wire then p.gapOn wire else p := rfl
@[simp] theorem exec_repeatMemoryEnd (drop : Fin 96) (s : State) : exec (.repeatMemoryEnd drop) s =
    whileRunning s fun p => p.endMemory drop.val := rfl
@[simp] theorem exec_escortWindowEnd (drop : Fin 96) (s : State) : exec (.escortWindowEnd drop) s =
    whileRunning s fun p => p.endEscort drop.val := rfl
@[simp] theorem exec_rawLevelChange (line : Fin 8) (high : Bool) (s : State) : exec (.rawLevelChange line high) s =
    whileRunning s fun p => p.rawChange line.val high := rfl
@[simp] theorem exec_debounceEnd (line : Fin 8) (s : State) : exec (.debounceEnd line) s =
    whileRunning s fun p => p.endDebounce line.val := rfl
@[simp] theorem exec_purgeVisit (s : State) : exec .purgeVisit s =
    whileRunning s Part.purgeVisit := rfl
@[simp] theorem exec_sweepVisit (s : State) : exec .sweepVisit s =
    whileRunning s Part.sweepVisit := rfl
@[simp] theorem exec_pollSent (link : Fin 6) (s : State) : exec (.pollSent link) s =
    whileRunning s fun p => p.startWindow link.val := rfl
@[simp] theorem exec_frameStart (wire : Wire) (s : State) : exec (.frameStart wire) s =
    whileRunning s fun p => p.beginFrame wire := rfl
@[simp] theorem exec_unknownCommand (kind tag : Byte) (s : State) : exec (.unknownCommand kind tag) s =
    execUnknownCommand kind tag s := rfl
@[simp] theorem exec_replySent (s : State) : exec .replySent s = execReplySent s := rfl
@[simp] theorem exec_secondAdvance (s : State) : exec .secondAdvance s = execSecondAdvance s := rfl
@[simp] theorem exec_minuteAdvance (s : State) : exec .minuteAdvance s = execMinuteAdvance s := rfl
@[simp] theorem exec_dayRollover (s : State) : exec .dayRollover s = execDayRollover s := rfl
@[simp] theorem exec_startConditionBegins (s : State) : exec .startConditionBegins s = execStartConditionBegins s := rfl
@[simp] theorem exec_startConditionCeases (mainOk resetReleased : Bool) (s : State) :
    exec (.startConditionCeases mainOk resetReleased) s = execStartConditionCeases mainOk resetReleased s := rfl
@[simp] theorem exec_startSequence (levels : Set8) (s : State) : exec (.startSequence levels) s = execStartSequence levels s := rfl
@[simp] theorem exec_retentionPowerGain (s : State) : exec .retentionPowerGain s = execRetentionPowerGain s := rfl
@[simp] theorem exec_retentionSupplyLoss (s : State) : exec .retentionSupplyLoss s = execRetentionSupplyLoss s := rfl

end Sys2Proof.Laws
end

