-- ==== Sys2Proof/Tests/Slice0.lean ====
section
/-! SUPPORT. Tests/Slice0.lean: the checks of WellFormed refuse ill-formed terms, frames decode as chapter 12 lays them
out, small steps of the commands, and for each statement states and operands that meet its hypotheses. -/

namespace Sys2Proof.Tests

open Sys2Proof.Machine Sys2Proof.Safety

/-! ## Ill-formed terms -/

/-- An image with as many empty grants as given. -/
def image (badge : Badge) (cls tenant : Byte) (quota : Option Byte) (grants : Nat) : CredImage :=
  ⟨badge, cls, tenant, none, 0, none, quota, false, false, false, List.replicate grants ⟨2, 2, 0⟩⟩

theorem test_illformed_enrol_count : (Instr.credEnrol 1 (.read (image 11 0 0 none 256))).wellFormed = false := by
  decide +kernel
theorem test_illformed_amend_count : (Instr.credAmend 1 (.read (image 11 0 0 none 256))).wellFormed = false := by
  decide +kernel
theorem test_illformed_create_count :
    (Instr.tenantCreate 1 (.read ⟨3, List.replicate 256 ⟨2, 2, 0⟩⟩)).wellFormed = false := by decide +kernel
theorem test_illformed_floors_count :
    (Instr.tenantFloors 1 (.read ⟨3, List.replicate 256 ⟨2, 2, 0⟩⟩)).wellFormed = false := by decide +kernel
theorem test_illformed_edit_count :
    (Instr.overlayEdit 1 (.read ⟨0, List.replicate 256 ⟨2, 2, 0⟩⟩)).wellFormed = false := by decide +kernel
theorem test_illformed_holidays_count : (Instr.holidaySet 1 (.read (List.replicate 256 0))).wellFormed = false := by
  decide +kernel
theorem test_illformed_windows_count :
    (Instr.schedSet 1 (.read ⟨1, List.replicate 205 ⟨1, 0, 1⟩⟩)).wellFormed = false := by decide +kernel
theorem test_illformed_ranges_count :
    (Instr.groupSet 1 (.read ⟨0, List.replicate 256 ⟨0, 1⟩, 0⟩)).wellFormed = false := by decide +kernel
theorem test_illformed_panel_drop : (Instr.panelSet 1 (.read (.configure 0x80 0 0 1))).wellFormed = false := by decide
theorem test_illformed_panel_removal : (Instr.panelSet 1 (.read (.unconfigure 0x80))).wellFormed = false := by decide
theorem test_illformed_panel_read : (Instr.panelRead 1 (.read 0x80)).wellFormed = false := by decide
theorem test_illformed_drop_read : (Instr.dropRead 1 (.read 0xFF)).wellFormed = false := by decide
theorem test_illformed_unknown_kind : (Instr.unknownCommand 0x34 1).wellFormed = false := by decide
theorem test_illformed_car : (Instr.callAssigned 1 0xFF).wellFormed = false := by decide
theorem test_illformed_code : (Instr.callDeclined 1 0x10).wellFormed = false := by decide
theorem test_illformed_ceases : (Instr.startConditionCeases true true).wellFormed = false := by decide
theorem test_wellformed_boundaries :
    (Instr.unknownCommand 0x35 1).wellFormed && (Instr.unknownCommand 0 1).wellFormed &&
      (Instr.callAssigned 1 0xFE).wellFormed && (Instr.callDeclined 1 0x0F).wellFormed &&
      (Instr.panelRead 1 (.read 0x7F)).wellFormed &&
      (Instr.startConditionCeases true false).wellFormed = true := by decide

/-! ## Frames (R203 to R207) -/

/-- The check value the manual gives for the bytes 31h to 39h (R203). -/
theorem test_check_sequence :
    checkSequence [0x31, 0x32, 0x33, 0x34, 0x35, 0x36, 0x37, 0x38, 0x39] = 0x29B1#16 := by decide +kernel

/-- A frame decodes as its kind and body are laid out: length, kind, tag, parameters, check. -/
def received (wire : Wire) (kind : Byte) (body : List Byte) : Instr := frameCommand wire 0 ((envelope kind body).drop 1)

theorem test_decode_restart : received .management 0x34 [0x05] = .restart 5 (.read ()) := by decide +kernel
theorem test_decode_long_restart : received .management 0x34 [0x05, 0] = .restart 5 .malformed := by decide +kernel
theorem test_decode_unknown : received .management 0x35 [0x05] = .unknownCommand 0x35 5 := by decide +kernel
/-- A grant place beyond the count that is not zero (R207). -/
theorem test_decode_enrol_reserved :
    received .management 0x01
        [9, 0, 0, 0, 0, 11, 1, 3, 7, 2, 0, 1, 0, 5, 4, 3, 0, 0, 1, 1, 2, 0, 0, 0, 0, 0, 0, 0, 0, 0, 1] =
      .credEnrol 9 .malformed := by decide +kernel
theorem test_decode_enrol_image :
    received .management 0x01
        [9, 0, 0, 0, 0, 11, 1, 3, 7, 2, 0, 1, 0, 5, 4, 3, 0, 0, 1, 2, 6, 0, 0, 0, 0, 0, 0, 0, 0, 0, 0] =
      .credEnrol 9 (.read ⟨11, 1, 3, some 2, 1, some 5, some 4, true, true, false, [⟨2, 6, 0⟩]⟩) := by decide +kernel
theorem test_decode_group_set :
    received .management 0x1F [9, 2, 1, 3, 8, 4] = .groupSet 9 (.read ⟨2, [⟨3, 8⟩], 4⟩) := by decide +kernel
theorem test_decode_panel_removal : received .management 0x25 [9, 0x3C, 0] = .panelSet 9 (.read (.unconfigure 0x3C)) := by
  decide +kernel
theorem test_decode_assigned : received .dispatcher 0x30 [1, 2, 7] = .callAssigned 0x0102 7 := by decide +kernel
theorem test_decode_assigned_no_car : received .dispatcher 0x30 [1, 2, 0xFF] = .dispatcherFrameDiscarded := by decide +kernel
theorem test_decode_alive : received .dispatcher 0x32 [0x81] = .dispatchAlive 0x81 := by decide +kernel
theorem test_decode_reply :
    received (.panel 2) 0x11 [3, 1, 0, 0, 0, 0, 7, 40] = .validReply 2 3 (some (.destination 7 40)) := by decide +kernel
theorem test_decode_reply_reserved : received (.panel 2) 0x11 [3, 2, 0, 0, 0, 0, 7, 40] = .invalidReply 2 := by decide +kernel
theorem test_decode_bad_check :
    frameCommand .management 0 [0, 2, 0x34, 0x05, 0, 0] = .managementFrameDiscarded := by decide +kernel
/-- A length of 0 ends the frame with its second length byte (R203). -/
theorem test_receiver_length_zero :
    (Receiver.receiving [0]).take 0 = (.hunting, some [0, 0]) := by decide +kernel

/-! ## A small world -/

/-- A staff record of tenant 3 with two trips left. -/
def staff : Cred := ⟨.active, .staff, 3, some 2, [], 0, none, some 2, false, false, false, false⟩
/-- A visitor's record of the building, with a grant for landing 3. -/
def guest : Cred := ⟨.active, .visitor, 0, none, [⟨3, 3, 0⟩], 0, some 9, none, false, false, true, false⟩

/-- Landings 0 PUBLIC, 1 SKY, 2 TENANT, 3 SECURE, 4 PLANT; group 0 from 0 to 1, group 1 from 1 to 4, joined at 1; drop 0.0 in
the lobby, drop 0.1 at the sky lobby; tenant 3 with badge 7, and badge 9 of the building. -/
def records : Retention := { Retention.afterLoss with
  creds := [(7, staff), (9, guest)]
  tenants := [(3, ⟨.live, [⟨2, 2, 0⟩], 1⟩)]
  calendar := ⟨true, 5, 600, 0⟩
  landings := [(0, .publicLanding), (1, .sky), (2, .tenant), (3, .secure), (4, .plant)]
  groups := [(0, ⟨[⟨0, 1⟩], 0⟩), (1, ⟨[⟨1, 4⟩], 1⟩)]
  transfers := [(0, ⟨0, 1, 1⟩)]
  drops := [(0, ⟨.lobby, 0, 1#8⟩), (1, ⟨.sky, 1, 2#8⟩)] }

/-- The dispatcher link UP with groups 0 and 1 in service, both drops UP, drop 0.0 polled. -/
def hall : Main := { Main.fresh with
  link := .up
  liveness := some 30
  inService := 3#8
  drops := [(0, .emptied .up), (1, .emptied .up)]
  links := [(0, ⟨some 0, some ⟨0, none, false, false⟩⟩)] }

/-- A working part. -/
def running (r : Retention) (m : Main) : State := { State.reset with ret := r, well := .running m }

def base : State := running records hall
/-- The part with the main well in another state. -/
def stopped (w : Well) : State := { base with well := w }

/-- Badge 7 rides from drop 0.0 to landing 2: call 5 in slot 0 to the sky lobby, with a PENDING ticket. -/
def ride : Call := ⟨5, 0, some 7, 0, 0, 1, some 2, false, false, none, true, 40⟩
def callRecords : Retention := { records with creds := [(7, { staff with reserved := true }), (9, guest)] }
def callHall : Main := { hall with
  calls := [(0, ride)], counter := 5, tickets := [⟨7, 1, 1, 2, .pending ⟨5, 0⟩⟩] }
def calling : State := running callRecords callHall

/-- Badge 7 with an ISSUED ticket for landing 2, and, where a call is given, that ticket CLAIMED by it. -/
def ticketHall : Main := { hall with tickets := [⟨7, 1, 1, 2, .issued 50⟩] }
def claim : Call := ⟨6, 1, some 7, 1, 1, 2, none, false, true, none, false, 40⟩
def claimHall : Main := { hall with
  calls := [(3, claim)], counter := 6, tickets := [⟨7, 1, 1, 2, .claimed 50 ⟨6, 3⟩⟩] }

/-- The laws of a state that is written out. -/
theorem lawful_base : Inv base :=
  ⟨⟨by decide, by decide, by decide, by decide, by decide⟩,
    ⟨by decide, by decide, by decide, by decide, by decide, by decide, by decide, by decide, by decide, by decide,
      by decide, by decide⟩, rfl⟩

theorem lawful_calling : Inv calling :=
  ⟨⟨by decide, by decide, by decide, by decide, by decide⟩,
    ⟨by decide, by decide, by decide, by decide, by decide, by decide, by decide, by decide, by decide, by decide,
      by decide, by decide⟩, rfl⟩

/-! ## Small steps -/

/-- The working part after a command. -/
def ran (c : Instr) (s : State) : Option Part :=
  match exec c s with
  | .next t =>
    match t.well with
    | .running m => some ⟨t.ret, m⟩
    | .qualifying => none
    | .off => none
  | .fault _ => none
  | .refused _ => none

/-- The status of the reply that a command of the station has begun. -/
def statusOf (c : Instr) (s : State) : Option Status :=
  match ran c s with
  | some ⟨_, m⟩ =>
    match m.mgmt with
    | .replying r => some r.status
    | _ => none
  | none => none

/-- The results of that reply. -/
def resultsOf (c : Instr) (s : State) : Option Results :=
  match ran c s with
  | some ⟨_, m⟩ =>
    match m.mgmt with
    | .replying r => some r.results
    | _ => none
  | none => none

/-- A tenant record of 3 in a given state. -/
def tenant3 (st : TenantState) : Retention := { records with tenants := [(3, ⟨st, [⟨2, 2, 0⟩], 1⟩)] }
/-- Tenant 3 being purged from a position. -/
def purging (position : Nat) : Retention := { tenant3 .purging with purge := ⟨true, 3, position⟩ }
/-- Slot 0 open on tenant 3. -/
def overlayHall : Main := { hall with overlays := [(0, ⟨3, [⟨4, 4, 0⟩], none⟩)] }
/-- The sweep running for a day. -/
def sweeping (day : Half) (position : Nat) : Retention := { records with sweep := ⟨true, day, position, 0, 0⟩ }
/-- Requests waiting at drop 0.0. -/
def asking (rs : List Request) (m : Main) : Main :=
  { m with drops := [(0, { DropLive.emptied .up with queue := rs }), (1, .emptied .up)] }
/-- Line 0 demands a mode on group 1. -/
def alarm (mode : Mode) : Retention :=
  { records with lines := [(0, ⟨true, .activeHigh, .level, 3, .demand mode 2#8⟩)] }

/-- The main well with line 0 low, its debounce running to a moment. -/
def lineHall (now ends : Nat) : Main := { hall with now := now, lines := [(0, ⟨false, true, some ends⟩)] }
/-- A frame under way on panel link 0 while the reply window runs. -/
def windowHall : Main := { hall with receiving := 1#8, links := [(0, ⟨some 0, some ⟨0, none, false, true⟩⟩)] }
/-- That frame, late, beside the next poll. -/
def stragglerHall : Main := { hall with
  receiving := 1#8, late := 1#8, links := [(0, ⟨some 1, some ⟨1, none, false, false⟩⟩)] }

theorem test_enrol_exhausted :
    statusOf (.credEnrol 1 (.read (image 11 1 3 (some 0) 1))) base = some .done ∧
    (ran (.credEnrol 1 (.read (image 11 1 3 (some 0) 1))) base).map (fun p =>
      ((p.cred 11).map Cred.state, (p.tenant 3).map Tenant.count)) = some (some .exhausted, some 2) := by decide
theorem test_enrol_refusals :
    statusOf (.credEnrol 1 (.read (image 0 1 3 none 1))) base = some .badValue ∧
    statusOf (.credEnrol 1 (.read (image 7 1 3 none 1))) base = some .exists ∧
    statusOf (.credEnrol 1 (.read (image 11 1 4 none 1))) base = some .badValue := by decide
theorem test_amend_leaves_live_tenant :
    (ran (.credAmend 1 (.read (image 7 0 4 none 0)))
        (running { records with tenants := [(3, ⟨.live, [], 1⟩), (4, ⟨.suspended, [], 0⟩)] } ticketHall)).map (fun p =>
      (p.main.tickets.length, (p.tenant 3).map Tenant.count, (p.tenant 4).map Tenant.count)) =
      some (0, some 0, some 1) := by decide
theorem test_suspend_takes_tickets :
    (ran (.credSuspend 1 (.read 7)) (running records ticketHall)).map (fun p => p.main.tickets.length) = some 0 := by decide
theorem test_reinstate_active : statusOf (.credReinstate 1 (.read 7)) base = some .wrongState := by decide
theorem test_retire_counts :
    (ran (.credRetire 1 (.read 7)) base).map (fun p => (p.ret.creds.length, (p.tenant 3).map Tenant.count)) =
      some (1, some 0) := by decide
theorem test_reload_too_great : statusOf (.quotaReload 1 (.read ⟨7, 256⟩)) base = some .badValue := by decide
theorem test_cred_read : resultsOf (.credRead 1 (.read 9)) base = some (.cred 9 guest) := by decide
theorem test_cred_next : resultsOf (.credNext 1 (.read 7)) base = some (.cred 9 guest) := by decide
theorem test_tenant_create : statusOf (.tenantCreate 1 (.read ⟨255, []⟩)) base = some .done := by decide
theorem test_tenant_floors_overlay :
    statusOf (.tenantFloors 1 (.read ⟨3, []⟩)) (running records overlayHall) = some .inOverlay := by decide
theorem test_tenant_suspend_takes_tickets :
    (ran (.tenantSuspend 1 (.read 3)) (running records ticketHall)).map (fun p => p.main.tickets.length) = some 0 := by decide
theorem test_tenant_reinstate :
    (ran (.tenantReinstate 1 (.read 3)) (running (tenant3 .suspended) hall)).map (fun p => (p.tenant 3).map Tenant.state) =
      some (some .live) := by decide
theorem test_tenant_purge :
    (ran (.tenantPurge 1 (.read 3)) (running (tenant3 .suspended) hall)).map (fun p => p.ret.purge) =
      some ⟨true, 3, 0⟩ := by decide
theorem test_tenant_read :
    resultsOf (.tenantRead 1 (.read 3)) base = some (.tenant ⟨.live, [⟨2, 2, 0⟩], 1⟩ none none) := by decide
theorem test_overlay_open :
    (ran (.overlayOpen 1 (.read ⟨1, 3⟩)) base).map (fun p => p.main.overlays) =
      some [(1, ⟨3, [⟨2, 2, 0⟩], none⟩)] := by decide
theorem test_overlay_edit_free : statusOf (.overlayEdit 1 (.read ⟨1, []⟩)) base = some .wrongState := by decide
theorem test_overlay_apply :
    (ran (.overlayApply 1 (.read ⟨0, 1⟩)) (running records overlayHall)).map (fun p => p.main.overlays) =
      some [(0, ⟨3, [⟨4, 4, 0⟩], some .trial⟩)] := by decide
theorem test_overlay_commit :
    (ran (.overlayCommit 1 (.read 0)) (running records overlayHall)).map (fun p =>
      (p.main.overlays, (p.tenant 3).map Tenant.grants)) = some ([], some [⟨4, 4, 0⟩]) := by decide
theorem test_overlay_discard :
    (ran (.overlayDiscard 1 (.read 0)) (running records overlayHall)).map (fun p =>
      (p.main.overlays, (p.tenant 3).map Tenant.grants)) = some ([], some [⟨2, 2, 0⟩]) := by decide
theorem test_overlay_read : resultsOf (.overlayRead 1 (.read 1)) base = some (.overlay none) := by decide
theorem test_cal_set_triggers :
    (ran (.calSet 1 (.read ⟨6, 1439⟩)) base).map (fun p => (p.ret.calendar, p.ret.sweep)) =
      some (⟨true, 6, 1439, 0⟩, ⟨true, 6, 0, 0, 0⟩) := by decide
theorem test_cal_read : resultsOf (.calRead 1 (.read ())) base = some (.calendar ⟨true, 5, 600, 0⟩ (some .sat)) := by decide
theorem test_holiday_set_unordered : statusOf (.holidaySet 1 (.read [4, 4])) base = some .badValue := by decide
theorem test_holiday_read : resultsOf (.holidayRead 1 (.read ())) base = some (.holidays []) := by decide
theorem test_sched_set :
    (ran (.schedSet 1 (.read ⟨63, [⟨1, 0, 1440⟩]⟩)) base).map (fun p => p.ret.schedules) =
      some [(63, [⟨1, 0, 1440⟩])] := by decide
theorem test_sched_read : resultsOf (.schedRead 1 (.read 1)) base = some (.windows []) := by decide
theorem test_param_set :
    statusOf (.paramSet 1 (.read ⟨0, 4⟩)) base = some .badValue ∧
    (ran (.paramSet 1 (.read ⟨0, 5⟩)) base).map (fun p => p.ret.params.callTimeout) = some 5 := by decide
theorem test_param_read : resultsOf (.paramRead 1 (.read ())) base = some (.params .defaults) := by decide
theorem test_landing_set_in_use : statusOf (.landingSet 1 (.read ⟨0, 2, 5⟩)) base = some .wrongState := by decide
theorem test_landing_set :
    (ran (.landingSet 1 (.read ⟨3, 4, 5⟩)) base).map (fun p => p.ret.landings) =
      some [(0, .publicLanding), (1, .sky), (2, .tenant)] := by decide
theorem test_group_set_notice :
    (ran (.groupSet 1 (.read ⟨7, [⟨5, 6⟩], 6⟩)) base).map (fun p => p.main.sendQueue) =
      some [.modeNotice 7 .normal (some 6)] := by decide
theorem test_group_clear_named : statusOf (.groupClear 1 (.read 0)) base = some .wrongState := by decide
theorem test_group_read : resultsOf (.groupRead 1 (.read 0)) base = some (.group (some ⟨[⟨0, 1⟩], 0⟩)) := by decide
theorem test_transfer_set_same_group : statusOf (.transferSet 1 (.read ⟨1, 1, 1, 1⟩)) base = some .badValue := by decide
theorem test_transfer_clear :
    (ran (.transferClear 1 (.read 0)) base).map (fun p => p.ret.transfers) = some [] := by decide
theorem test_panel_set_polls :
    (ran (.panelSet 1 (.read (.configure 0x10 0 0 1))) base).map (fun p =>
      ((p.drop 16).state, p.panelLink 1)) =
      some (.qualifying, ⟨some 0, some ⟨0, none, false, false⟩⟩) := by decide
theorem test_panel_set_in_call : statusOf (.panelSet 1 (.read (.unconfigure 0))) calling = some .wrongState := by decide
theorem test_panel_read :
    resultsOf (.panelRead 1 (.read 0)) calling = some (.panel (some ⟨.lobby, 0, 1#8⟩) .up true) := by decide
theorem test_ticket_read :
    resultsOf (.ticketRead 1 (.read (.byOrdinal 0))) calling =
      some (.tickets 0 1 [⟨0, ⟨7, 1, 1, 2, .pending ⟨5, 0⟩⟩⟩]) := by decide
theorem test_drop_read : resultsOf (.dropRead 1 (.read 0)) base = some (.drop (.emptied .up) true 0) := by decide
theorem test_alarm_set_absent_mode : statusOf (.alarmSet 1 (.read ⟨0, 1, 0, 0, 3, 2, 0xFF, 2⟩)) base = some .badValue := by
  decide
theorem test_alarm_ack_keeps_active_level :
    (ran (.alarmAck 1 (.read 0xFF))
        (running { alarm .lockdown with lineStatus := 3#8 } { hall with modes := [(1, .lockdown)] })).map (fun p =>
      (p.ret.lineStatus, p.mode 1)) = some (1#8, .lockdown) := by decide +kernel
theorem test_mode_demand_recall :
    (ran (.modeDemand 1 (.read ⟨0, 3, 1⟩)) calling).map (fun p =>
      (p.main.calls, p.main.sendQueue, p.ret.latches, p.main.tickets)) =
      some ([], [.modeNotice 0 .recalled (some 0), .callCancel 5], 1#8, []) := by decide
theorem test_resume_held :
    statusOf (.groupResume 1 (.read 1))
      (running { alarm .recalled with lineStatus := 1#8, latches := 2#8 } { hall with modes := [(1, .recalled)] }) =
      some .demandActive := by decide
theorem test_mode_read :
    resultsOf (.modeRead 1 (.read 1))
      (running { alarm .lockdown with lineStatus := 1#8 } { hall with modes := [(1, .lockdown)] }) =
      some (.modeOf false .off [(0, .lockdown)] .lockdown) := by decide
/-- DISPATCHER_DOWN, CALENDAR_INVALID and RETENTION_LOST hold at reset; RETENTION_LOST alone is sticky (R188, R189). -/
theorem test_attn_ack_at_reset :
    resultsOf (.attnAck 1 (.read 0xFFFF)) State.reset = some (.attention 0x0500 0xFFFF) ∧
    resultsOf (.attnRead 1 (.read ())) State.reset = some (.attention 0x8500 0xFFFF) := by decide
theorem test_attention_line : State.attentionLine State.reset = true ∧ State.attentionLine (stopped .off) = false := by
  decide
theorem test_attn_enable :
    resultsOf (.attnEnable 1 (.read 0x00FF)) State.reset = some (.attention 0x8500 0x00FF) := by decide
theorem test_call_read :
    resultsOf (.callRead 1 (.read (.byNumber 5))) calling = some (.call 0 ride (some (.pending ⟨5, 0⟩)) 0) := by decide
theorem test_restart_stops :
    (match exec .replySent (running records { hall with mgmt := .replying ⟨0x34, 1, .done, .nothing⟩ }) with
      | .next t => decide (t = stopped .qualifying)
      | _ => false) = true := by decide
theorem test_overrun_reply :
    (ran .replySent (running records { hall with
        mgmt := .replying ⟨0x16, 1, .done, .nothing⟩, overrun := some ⟨2, 4, 3⟩ })).map (fun p =>
      (p.main.mgmt, p.main.overrun)) = some (.replying ⟨0, 2, .overrun, .overrun 4 3⟩, none) := by decide
theorem test_unknown_command : statusOf (.unknownCommand 0x35 1) base = some .notReady := by decide
/-- A transfer trip of a badge with a quota: reserved, ticketed, numbered and sent (R109). -/
theorem test_decision_places :
    (ran .decision (running records (asking [.destination 7 2] hall))).map (fun p =>
      (p.main.calls, p.main.tickets, (p.cred 7).map Cred.reserved)) =
      some ([(0, { ride with number := 1 })], [⟨7, 1, 1, 2, .pending ⟨1, 0⟩⟩], some true) := by decide +kernel
theorem test_decision_denies :
    (ran .decision (running records (asking [.destination 8 2] hall))).map (fun p => (p.drop 0).answers) =
      some [⟨.denied .unknownBadge, false⟩] := by decide +kernel
theorem test_assigned :
    (ran (.callAssigned 5 9) calling).map (fun p =>
      (p.main.calls, (p.cred 7).map Cred.quota, p.main.tickets, (p.drop 0).answers)) =
      some ([], some (some 1), [⟨7, 1, 1, 2, .issued 12000⟩], [⟨.granted 0 9 1 (some 2), false⟩]) := by decide
theorem test_assigned_late : (ran (.callAssigned 6 9) calling).map (fun p => p.main.sendQueue) = some [.callCancel 6] := by
  decide
theorem test_declined :
    (ran (.callDeclined 5 2) calling).map (fun p =>
      (p.main.calls, (p.cred 7).map Cred.reserved, p.main.tickets, (p.drop 0).answers)) =
      some ([], some false, [], [⟨.noService (.declined 2), false⟩]) := by decide
theorem test_call_timer : (ran (.callTimerExpiry 5) calling).map (fun p => p.main.calls.length) = some 1 := by decide
theorem test_alive_qualifies :
    (ran (.dispatchAlive 3) (running records { hall with link := .qualifying, aliveRun := 2 })).map (fun p =>
      (p.main.link, p.main.aliveRun, p.main.sendQueue)) =
      some (.up, 0, [.modeNotice 0 .normal (some 0), .modeNotice 1 .normal (some 1)]) := by decide
theorem test_liveness :
    (ran .livenessTimerExpiry (running callRecords { callHall with now := 30 })).map (fun p =>
      (p.main.link, p.main.calls, (p.drop 0).answers)) =
      some (.down, [], [⟨.noService .dispatcherDown, false⟩]) := by decide
theorem test_ticket_expiry :
    (ran (.ticketExpiry 7) (running records { ticketHall with now := 50 })).map (fun p => p.main.tickets) = some [] := by
  decide
theorem test_reply_asks :
    (ran (.validReply 0 0 (some (.badgeOnly 7))) base).map (fun p => ((p.drop 0).queue, p.panelLink 0)) =
      some ([.badgeOnly 7], ⟨some 1, some ⟨1, none, false, false⟩⟩) := by decide
theorem test_third_miss :
    (ran (.invalidReply 0)
        (running records { hall with drops := [(0, { DropLive.emptied .up with missRun := 2 }), (1, .emptied .up)] })).map
      (fun p => ((p.drop 0).state, p.main.panelDown)) = some (.down, true) := by decide
theorem test_window_not_running : (ran (.replyWindowEnd 0) base).map (fun p => p.main) = some hall := by decide
/-- The end of the window ends the poll, and the frame under way is late (R208; log 31). -/
theorem test_window_marks_late :
    (ran (.replyWindowEnd 0) (running records windowHall)).map (fun p =>
      (p.main.late, p.panelLink 0, (p.drop 0).missRun)) =
      some (1#8, ⟨some 1, some ⟨1, none, false, false⟩⟩, 1) := by decide
theorem test_late_frame_discarded :
    (ran (.frameGapTimeout (.panel 0)) (running records stragglerHall)).map Part.main =
      some { stragglerHall with receiving := 0#8, late := 0#8 } ∧
    (ran (.validReply 0 1 none) (running records stragglerHall)).map Part.main =
      some { stragglerHall with receiving := 0#8, late := 0#8 } := by decide
theorem test_poll_sent :
    (ran (.pollSent 0) base).map (fun p => (p.panelLink 0).poll) = some (some ⟨0, none, false, true⟩) := by decide
theorem test_raw_level_begins :
    (ran (.rawLevelChange 0 false) (running (alarm .lockdown) hall)).map (fun p => p.lineLive 0) =
      some ⟨false, true, some 3⟩ := by decide
/-- A change while the timer runs starts it afresh; the level back at the debounced one stops it (R171, R183). -/
theorem test_raw_level_again :
    (ran (.rawLevelChange 0 false) (running (alarm .lockdown) (lineHall 2 3))).map (fun p => p.lineLive 0) =
      some ⟨false, true, some 5⟩ ∧
    (ran (.rawLevelChange 0 true) (running (alarm .lockdown) (lineHall 2 3))).map (fun p => p.lineLive 0) =
      some ⟨true, true, none⟩ := by decide
theorem test_debounce_end_demands :
    (ran (.debounceEnd 0)
        (running (alarm .lockdown) { hall with now := 3, lines := [(0, ⟨true, false, some 3⟩)] })).map (fun p =>
      (p.ret.lineStatus, p.mode 1)) = some (1#8, .lockdown) := by decide +kernel
theorem test_purge_visit :
    (ran .purgeVisit (running (purging 0) hall)).map (fun p => (p.ret.creds.length, p.ret.purge.position)) =
      some (1, 7) := by decide
theorem test_purge_end :
    (ran .purgeVisit (running { purging 7 with creds := [(9, guest)], tenants := [(3, ⟨.purging, [], 0⟩)] } hall)).map
      (fun p => (p.ret.tenants, p.ret.purge.running, p.main.purgeDone)) = some ([], false, true) := by decide
theorem test_sweep_visit :
    (ran .sweepVisit (running { sweeping 17 7 with params := .defaults } { hall with now := 1 })).map (fun p =>
      (p.ret.creds.length, p.ret.sweep.count)) = some (1, 1) := by decide
theorem test_sweep_in_grace :
    (ran .sweepVisit (running (sweeping 16 7) hall)).map (fun p => p.ret.creds.length) = some 2 := by decide
/-- Power first applied, the retention supply, the start condition and the start sequence lead to reset (R198; log 2). -/
theorem test_power_applied :
    (match exec .retentionPowerGain State.powerApplied with
      | .next t =>
        match exec .startConditionBegins t with
        | .next u =>
          match exec (.startSequence 0xFF) u with
          | .next v => decide (v = State.reset)
          | _ => false
        | _ => false
      | _ => false) = true := by decide +kernel
theorem test_start_after_loss :
    (match exec (.startSequence 0xFF) { State.reset with
        ret := { records with intact := false }, well := .qualifying } with
      | .next t => decide (t = State.reset)
      | _ => false) = true := by decide +kernel
theorem test_start_polls :
    (ran (.startSequence 0xFF) (stopped .qualifying)).map (fun p => (p.panelLink 0, (p.drop 1).state)) =
      some (⟨some 0, some ⟨0, none, false, false⟩⟩, .down) := by decide +kernel
theorem test_ceases :
    (match exec (.startConditionCeases false true) base with
      | .next t => decide (t = { stopped .off with mainOk := false })
      | _ => false) = true := by decide
theorem test_supply_loss_then_gain :
    (match exec .retentionSupplyLoss (stopped .off) with
      | .next t =>
        match exec .retentionPowerGain t with
        | .next u => decide (u.ret = Retention.afterLoss)
        | _ => false
      | _ => false) = true := by decide
/-- A full pool turns a visitor's transfer trip away and raises the condition (R107). -/
theorem test_pool_full :
    (ran .decision (running { records with landings := [(1, .sky), (2, .publicLanding)] }
        (asking [.destination 9 2] { hall with
          tickets := List.replicate 1024 ⟨7, 1, 1, 2, .issued 50⟩ }))).map (fun p =>
      ((p.drop 0).answers, p.main.poolFull)) = some ([⟨.denied .ticketPoolFull, false⟩], true) := by decide +kernel
/-- With nothing waiting and nothing due, a unit of service time passes (log 3). -/
theorem test_idle :
    (match step base with
      | .next t => decide (t = running records { hall with now := 1 })
      | _ => false) = true := by decide +kernel

/-! ## The hypotheses of the statements are met

One theorem for each statement that has hypotheses: states and operands that meet them together, one conjunct for each
clause. -/

/-- A state whose management link is sending a reply. -/
def replying (r : Reply) : Main := { hall with mgmt := .replying r }
def calReply : Reply := ⟨0x16, 1, .done, .nothing⟩
def restartReply : Reply := ⟨0x34, 1, .done, .nothing⟩

theorem witness_StepTakesFrontCommand :
    ({ base with pending := [.decision, .replySent] } : State).pending = .decision :: [.replySent] := rfl

/-- An idle part that is OFF; one with a timer due; one with nothing due and a drop eligible; one with nothing at all. -/
theorem witness_EveryCommandIsTaken :
    (stopped .off).pending = [] ∧ (∀ m, (stopped .off).well ≠ .running m) ∧
    (running records (lineHall 3 3)).pending = [] ∧ (dueNow (lineHall 3 3)).head? = some (.debounceEnd 0) ∧
    dueNow (asking [.badgeOnly 8] hall) = [] ∧
    (∃ i, eligibleDrop (partOf base (asking [.badgeOnly 8] hall)) i) ∧
    base.pending = [] ∧ base.well = .running hall ∧ dueNow hall = [] ∧ ∀ i, ¬eligibleDrop (partOf base hall) i := by
  refine ⟨rfl, fun _ => by simp [stopped], rfl, by decide, by decide, ⟨0, by decide, rfl, by decide, by decide⟩, rfl, rfl,
    by decide, fun i h => h.2.2.1 ?_⟩
  have h96 : i < 96 := h.1
  by_cases h0 : i = 0
  · subst h0; rfl
  by_cases h1 : i = 1
  · subst h1; rfl
  simp [Part.drop, hall, Table.get, Table.lookup, h0, h1, DropLive.unconfigured, DropLive.emptied]

theorem witness_OnlyPowerEventsMoveTheWells :
    movesWell .decision = false ∧ exec .decision (stopped .off) = .next (stopped .off) ∧ (stopped .off).well = .off ∧
    exec .decision (stopped .qualifying) = .next (stopped .qualifying) ∧ (stopped .qualifying).well = .qualifying ∧
    movesWell (.pollSent 5) = false ∧ exec (.pollSent 5) base = .next base ∧ base.well = .running hall :=
  ⟨rfl, rfl, rfl, rfl, rfl, rfl, rfl, rfl⟩

theorem witness_EventsAreLostWhileTheMainWellIsOff :
    (stopped .off).well = .off ∧ (stopped .qualifying).well = .qualifying ∧ takenWhileOff (.calRead 1 .malformed) = false := by
  decide

/-- A command that is read, one that is malformed, one that is refused. -/
theorem witness_CommandsAreAnswered :
    heading (.calRead 1 (.read ())) = some (0x16, 1, false) ∧ heading (.calRead 1 .malformed) = some (0x16, 1, true) ∧
    heading (.credRead 255 (.read 0)) = some (0x07, 255, false) ∧
    statusOf (.credRead 255 (.read 0)) base = some .badValue ∧ Ready base hall := by decide

theorem witness_FramesDuringAReplyAreCounted :
    (running records (replying calReply)).well = .running (replying calReply) ∧
    (replying calReply).mgmt = .replying calReply ∧
    (∃ kind bad, heading (.restart 9 (.read ())) = some (kind, 9, bad)) ∧
    (∃ kind, namesCommand kind = false ∧ Instr.unknownCommand 0x35 9 = .unknownCommand kind 9) :=
  ⟨rfl, rfl, ⟨0x34, false, rfl⟩, ⟨0x35, by decide, rfl⟩⟩

theorem witness_FramesWithoutEffect :
    Ready base hall ∧ namesCommand 0 = false ∧ namesCommand 0x35 = false ∧
    inSet hall.receiving (wireIndex (.panel 5)) = false ∧ inSet hall.receiving (wireIndex .management) = false ∧
    inSet (setPut hall.receiving 6 true) (wireIndex .dispatcher) = true ∧
    inSet (setPut hall.receiving 7 true) (wireIndex .management) = true := by decide

theorem witness_RepliesAreSentAndRestartStops :
    Ready base hall ∧ (running records (replying restartReply)).well = .running (replying restartReply) ∧
    (replying restartReply).mgmt = .replying ⟨0x34, 1, .done, .nothing⟩ ∧
    (replying calReply).mgmt = .replying calReply ∧ calReply.kind ≠ 0x34 ∧
    (⟨0x34, 1, .badValue, .nothing⟩ : Reply).status ≠ .done := by decide

theorem witness_EnrolmentAddsARecord :
    Ready base hall ∧ imageOk (image (BitVec.ofNat 40 (2 ^ 40 - 2)) 3 0 (some 0) 4) = true ∧
    credAt base.ret (BitVec.ofNat 40 (2 ^ 40 - 2)) = none ∧
    (∀ e ∈ hall.calls, e.2.badge ≠ some (BitVec.ofNat 40 (2 ^ 40 - 2))) ∧
    imageOk (image 1 0 3 none 0) = true ∧ credAt base.ret 1 = none ∧
    (∃ r, tenantAt base.ret 3 = some r ∧ r.state ≠ .purging) ∧ base.ret.creds.length < Config.credentials :=
  ⟨by decide, by decide, by decide, by decide, by decide, by decide, ⟨_, rfl, by decide⟩, by decide⟩

/-- One image for each check of CRED_ENROL but the full table. -/
theorem witness_EnrolmentAddsARecord_refused :
    firstFailing (enrolChecks records hall (image 0 3 0 none 0)) = some .badValue ∧
    firstFailing (enrolChecks records hall (image 7 3 0 none 0)) = some .exists ∧
    firstFailing (enrolChecks { records with creds := [] } callHall (image 7 3 0 none 0)) = some .wrongState ∧
    firstFailing (enrolChecks records hall (image 11 3 4 none 0)) = some .badValue ∧
    firstFailing (enrolChecks (purging 0) hall (image 11 3 3 none 0)) = some .badValue ∧
    firstFailing (enrolChecks records hall (image 11 3 3 none 0)) = none := by decide

/-- The check of a full table, at its boundary. -/
theorem witness_EnrolmentAddsARecord_full (t : Table Cred) (h : t.length = 16384)
    (free : credAt { records with creds := t } 11 = none) :
    firstFailing (enrolChecks { records with creds := t } hall (image 11 3 3 none 0)) = some .tableFull := by
  have ok : imageOk (image 11 3 3 none 0) = true := by decide
  have named : (namesFree { records with creds := t } 3 || namesPurging { records with creds := t } 3) = false := rfl
  have free' : credAt { records with creds := t } (image 11 3 3 none 0).badge = none := free
  have named' : (namesFree { records with creds := t } (image 11 3 3 none 0).tenant ||
    namesPurging { records with creds := t } (image 11 3 3 none 0).tenant) = false := named
  simp only [firstFailing, enrolChecks, ok, free', named', h]
  rfl

theorem witness_AmendmentReplacesARecord :
    Ready calling callHall ∧ imageOk (image 7 1 0 (some 1) 0) = true ∧
    (∃ c, credAt calling.ret 7 = some c ∧ c.reserved = true ∧
      (∀ r, tenantAt calling.ret c.tenant = some r → r.state ≠ .purging)) ∧
    imageOk (image 9 2 3 none 4) = true ∧ (∃ c, credAt calling.ret 9 = some c ∧ c.tenant = 0 ∧ c.reserved = false) ∧
    ∃ r, tenantAt calling.ret 3 = some r ∧ r.state ≠ .purging :=
  ⟨by decide, by decide, ⟨_, rfl, rfl, fun _ h => by cases h; decide⟩, by decide, ⟨_, rfl, rfl, rfl⟩, ⟨_, rfl, by decide⟩⟩

/-- One image for each check of CRED_AMEND. -/
theorem witness_AmendmentReplacesARecord_refused :
    firstFailing (amendChecks records (image 0 3 0 none 0)) = some .badValue ∧
    firstFailing (amendChecks records (image 8 3 0 none 0)) = some .notFound ∧
    firstFailing (amendChecks records (image 7 4 0 none 0)) = some .badValue ∧
    firstFailing (amendChecks records (image 7 3 4 none 0)) = some .badValue ∧
    firstFailing (amendChecks (purging 0) (image 7 3 0 none 0)) = some .purging ∧
    firstFailing (amendChecks (purging 0) (image 9 3 3 none 0)) = some .purging ∧
    firstFailing (amendChecks callRecords (image 7 3 3 (some 0) 0)) = some .badValue := by decide

/-- One badge for each check of a command on a record. -/
theorem witness_badgeChecks :
    firstFailing (badgeChecks records 0) = some .badValue ∧
    firstFailing (badgeChecks records (BitVec.allOnes 40)) = some .badValue ∧
    firstFailing (badgeChecks records 8) = some .notFound ∧ firstFailing (badgeChecks records 7) = none ∧
    firstFailing (reinstateChecks records 8) = some .notFound ∧
    firstFailing (reinstateChecks records 7) = some .wrongState ∧
    firstFailing (reloadChecks records ⟨0, 256⟩) = some .badValue ∧
    firstFailing (reloadChecks records ⟨8, 256⟩) = some .notFound ∧
    firstFailing (reloadChecks records ⟨7, 256⟩) = some .badValue ∧
    firstFailing (reloadChecks callRecords ⟨7, 0⟩) = some .badValue := by decide

theorem witness_SuspensionAndReinstatement :
    Ready base hall ∧ badgeKey 7 = true ∧ (∃ c, credAt base.ret 7 = some c ∧ c.state ≠ .suspended) ∧
    Ready (running { records with creds := [(7, { staff with state := .suspended })] } hall) hall ∧
    ∃ c, credAt { records with creds := [(7, { staff with state := .suspended })] } 7 = some c ∧ c.state = .suspended :=
  ⟨by decide, by decide, ⟨_, rfl, by decide⟩, ⟨rfl, rfl⟩, ⟨_, rfl, rfl⟩⟩

theorem witness_RetirementRemovesARecord :
    Ready calling callHall ∧ badgeKey 7 = true ∧ ∃ c, credAt calling.ret 7 = some c := ⟨by decide, by decide, ⟨_, rfl⟩⟩

theorem witness_QuotaReloadSetsTheCount :
    Ready calling callHall ∧ badgeKey 7 = true ∧ (∃ c, credAt calling.ret 7 = some c ∧ c.reserved = true) ∧
    (255#16).toNat ≤ 255 ∧ (255#16 : Half) ≠ 0 ∧
    badgeKey 9 = true ∧ (∃ c, credAt calling.ret 9 = some c ∧ c.reserved = false) ∧ (0#16).toNat ≤ 255 :=
  ⟨by decide, by decide, ⟨_, rfl, rfl⟩, by decide, by decide, by decide, ⟨_, rfl, rfl⟩, by decide⟩

/-- The second clause with badges 6 and 7, next to each other; the third on an empty table. -/
theorem witness_CredentialReads :
    Ready base hall ∧ RetentionTables base.ret ∧ badgeKey 9 = true ∧ credAt base.ret 9 = some guest ∧
    ((6 : Badge) < 7 ∧ credAt base.ret 7 = some staff ∧
      ∀ d : Badge, 6 < d → d < 7 → credAt base.ret d = none) ∧
    Ready State.reset Main.fresh ∧ RetentionTables State.reset.ret ∧
      ∀ d : Badge, 5 < d → credAt State.reset.ret d = none :=
  ⟨by decide, by decide, by decide, rfl,
    ⟨by decide, rfl, fun d h k => by
      have h' : 6 < d.toNat := BitVec.lt_def.mp h
      have k' : d.toNat < 7 := BitVec.lt_def.mp k
      omega⟩,
    ⟨rfl, rfl⟩, by decide, fun _ _ => rfl⟩

theorem witness_TenantsCreatedAndChanged :
    Ready base hall ∧ (255#8 : Byte) ≠ 0 ∧ grantListOk (List.replicate 8 ⟨0, 127, 63⟩) = true ∧
    tenantAt base.ret 255 = none ∧ (∃ v, tenantAt base.ret 3 = some v ∧ v.state ≠ .purging) ∧
    ∀ e ∈ hall.overlays, e.2.tenant ≠ 3 :=
  ⟨by decide, by decide, by decide, by decide, ⟨_, rfl, by decide⟩, by decide⟩

theorem witness_TenantsCreatedAndChanged_refused :
    firstFailing (createChecks records ⟨0, []⟩) = some .badValue ∧
    firstFailing (createChecks records ⟨4, [⟨4, 2, 0⟩]⟩) = some .badValue ∧
    firstFailing (createChecks records ⟨3, []⟩) = some .exists ∧
    firstFailing (floorsChecks records hall ⟨0, []⟩) = some .badValue ∧
    firstFailing (floorsChecks records hall ⟨4, []⟩) = some .notFound ∧
    firstFailing (floorsChecks records hall ⟨3, [⟨4, 2, 0⟩]⟩) = some .badValue ∧
    firstFailing (floorsChecks (purging 0) hall ⟨3, []⟩) = some .purging ∧
    firstFailing (floorsChecks records overlayHall ⟨3, []⟩) = some .inOverlay := by decide

theorem witness_TenantsSuspendedAndPurged_refused :
    firstFailing (suspendChecks records 0) = some .badValue ∧
    firstFailing (suspendChecks records 4) = some .notFound ∧
    firstFailing (suspendChecks (purging 0) 3) = some .wrongState ∧
    firstFailing (restoreChecks records 3) = some .wrongState ∧
    firstFailing (purgeChecks (purging 0) hall 3) = some .busy ∧
    firstFailing (purgeChecks records hall 3) = some .wrongState ∧
    firstFailing (purgeChecks (tenant3 .suspended) overlayHall 3) = some .inOverlay := by decide

theorem witness_TenantsSuspendedAndPurged :
    Ready base hall ∧ (∃ v, tenantAt base.ret 3 = some v ∧ v.state ≠ .purging) ∧
    Ready (running (tenant3 .suspended) hall) hall ∧ (3#8 : Byte) ≠ 0 ∧
    (∃ v, tenantAt (tenant3 .suspended) 3 = some v ∧ v.state = .suspended) ∧ (tenant3 .suspended).purge.running = false ∧
    ∀ e ∈ hall.overlays, e.2.tenant ≠ 3 :=
  ⟨by decide, ⟨_, rfl, by decide⟩, ⟨rfl, rfl⟩, by decide, ⟨_, rfl, rfl⟩, rfl, by decide⟩

/-- An IDLE walker; one at the last badge; one that meets a record of its tenant; one that meets another's; one that finds
a count of 0. -/
theorem witness_PurgeVisitTakesOneRecord :
    base.ret.purge.running = false ∧
    RetentionTables (purging 9) ∧ (purging 9).purge.running = true ∧ (∃ v, tenantAt (purging 9) 3 = some v) ∧
    (∀ b : Badge, (purging 9).purge.position < b.toNat → credAt (purging 9) b = none) ∧
    (∃ v, tenantAt (purging 6) (purging 6).purge.tenant = some v ∧ v.count ≠ 0 ∧
      (purging 6).purge.position < (7 : Badge).toNat ∧ credAt (purging 6) 7 = some staff ∧
      (∀ d : Badge, (purging 6).purge.position < d.toNat → d < 7 → credAt (purging 6) d = none) ∧
      staff.tenant = (purging 6).purge.tenant) ∧
    (credAt (purging 8) 9 = some guest ∧
      (∀ d : Badge, (purging 8).purge.position < d.toNat → d < 9 → credAt (purging 8) d = none) ∧
      guest.tenant ≠ (purging 8).purge.tenant) ∧
    ∃ v, tenantAt { purging 0 with tenants := [(3, ⟨.purging, [], 0⟩)] } 3 = some v ∧ v.count = 0 := by
  refine ⟨rfl, by decide, rfl, ⟨_, rfl⟩, ?_, ⟨_, rfl, by decide, by decide, rfl, ?_, rfl⟩, ⟨rfl, ?_, by decide⟩,
    ⟨_, rfl, rfl⟩⟩
  · intro b (h : 9 < b.toNat)
    have h7 : b.toNat ≠ 7 := by omega
    have h9 : b.toNat ≠ 9 := by omega
    show Table.lookup [(7, staff), (9, guest)] b.toNat = none
    simp [Table.lookup, h7, h9]
  · intro d (h : 6 < d.toNat) k
    have k' : d.toNat < 7 := BitVec.lt_def.mp k
    omega
  · intro d (h : 8 < d.toNat) k
    have k' : d.toNat < 9 := BitVec.lt_def.mp k
    omega

theorem witness_OverlaySlots :
    (Ready base hall ∧ (1#8 : Byte).toNat < 2 ∧ (3#8 : Byte) ≠ 0 ∧ Table.lookup hall.overlays 1 = none ∧
      (∃ v, tenantAt base.ret 3 = some v ∧ v.state ≠ .purging) ∧ ∀ e ∈ hall.overlays, e.2.tenant ≠ 3) ∧
    Ready (running records overlayHall) overlayHall ∧
    Table.lookup overlayHall.overlays (0#8 : Byte).toNat = some ⟨3, [⟨4, 4, 0⟩], none⟩ ∧
    grantListOk [⟨0, 0, 0⟩] = true ∧ Scope.ofCode 0 = some .all ∧ Scope.ofCode 1 = some .trial :=
  ⟨⟨by decide, by decide, by decide, rfl, ⟨_, rfl, by decide⟩, by decide⟩, ⟨rfl, rfl⟩, rfl, by decide, rfl, rfl⟩

theorem witness_OverlaySlots_refused :
    firstFailing (openChecks records hall ⟨2, 3⟩) = some .badValue ∧
    firstFailing (openChecks records hall ⟨1, 0⟩) = some .badValue ∧
    firstFailing (openChecks records overlayHall ⟨0, 3⟩) = some .wrongState ∧
    firstFailing (openChecks records hall ⟨1, 4⟩) = some .notFound ∧
    firstFailing (openChecks (purging 0) hall ⟨1, 3⟩) = some .purging ∧
    firstFailing (openChecks records overlayHall ⟨1, 3⟩) = some .inOverlay ∧
    firstFailing (slotChecks overlayHall 2 true) = some .badValue ∧
    firstFailing (slotChecks overlayHall 0 false) = some .badValue ∧
    firstFailing (slotChecks overlayHall 1 true) = some .wrongState := by decide

/-- A day's calendar. -/
def calendarAt (day : Half) (minute second : Nat) : State :=
  { stopped .off with ret := { records with calendar := ⟨true, day, minute, second⟩ } }

theorem witness_CalendarAdvances :
    State.reset.ret.calendar.valid = false ∧ ({ records with intact := false } : Retention).intact = false ∧
    (calendarAt 7 1439 58).ret.intact = true ∧ (calendarAt 7 1439 58).ret.calendar = ⟨true, 7, 1439, 58⟩ ∧ 58 < 59 ∧
    (calendarAt 7 1438 59).ret.calendar = ⟨true, 7, 1438, 59⟩ ∧ 1438 < 1439 ∧
    (calendarAt 65534 1439 59).ret.calendar = ⟨true, 65534, 1439, 59⟩ ∧ (65534#16 : Half) ≠ 65535 ∧
    (calendarAt 65535 1439 59).ret.calendar = ⟨true, 65535, 1439, 59⟩ := by decide

theorem witness_CalendarUnitIsSet :
    Ready base hall ∧ 1439 < (1440#16 : Half).toNat ∧ (1439#16 : Half).toNat ≤ 1439 ∧
    holidaysOk [4, 5] = true ∧ holidaysOk [5, 5] = false ∧
    ((1#8 : Byte) ≠ 0 ∧ (63#8 : Byte).toNat ≤ 63 ∧ windowListOk [⟨0xFF, 0, 1440⟩] = true) ∧
    63 < (64#8 : Byte).toNat ∧ windowListOk [⟨0, 0, 1440⟩] = false ∧
    (Param.ofCode 8 = some .sweepGrace ∧ Param.sweepGrace.range.1 ≤ (0#8 : Byte).toNat ∧
      (30#8 : Byte).toNat ≤ Param.sweepGrace.range.2) ∧
    Param.ofCode 9 = none ∧ Param.ofCode 0 = some .callTimeout ∧
    (4#8 : Byte).toNat < Param.callTimeout.range.1 ∧ Param.callTimeout.range.2 < (101#8 : Byte).toNat := by decide

/-- Badge 9 holds to day 9, with 7 days of grace: kept on day 16, retired on day 17. -/
theorem witness_SweepVisitTakesOneRecord :
    base.well = .running hall ∧ RetentionTables base.ret ∧ base.ret.sweep.running = false ∧
    RetentionTables (sweeping 17 9) ∧ (sweeping 17 9).sweep.running = true ∧
    (∀ b : Badge, (sweeping 17 9).sweep.position < b.toNat → credAt (sweeping 17 9) b = none) ∧
    credAt (sweeping 17 8) 9 = some guest ∧
    (∀ d : Badge, (sweeping 17 8).sweep.position < d.toNat → d < 9 → credAt (sweeping 17 8) d = none) ∧
    guest.validTo = some 9 ∧ (9#16 : Half).toNat + records.params.sweepGrace < (17#16 : Half).toNat ∧
    (16#16 : Half).toNat ≤ (9#16 : Half).toNat + records.params.sweepGrace ∧ staff.validTo = none := by
  refine ⟨rfl, by decide, rfl, by decide, rfl, ?_, rfl, ?_, rfl, by decide, by decide, rfl⟩
  · intro b (h : 9 < b.toNat)
    have h7 : b.toNat ≠ 7 := by omega
    have h9 : b.toNat ≠ 9 := by omega
    show Table.lookup [(7, staff), (9, guest)] b.toNat = none
    simp [Table.lookup, h7, h9]
  · intro d (h : 8 < d.toNat) k
    have k' : d.toNat < 9 := BitVec.lt_def.mp k
    omega

theorem witness_SchedulesInForce : (5 : Half) ∈ [4, 5] ∧ (5 : Half) ∉ ([] : List Half) := by decide

theorem witness_LandingsAreSet :
    Ready base hall ∧ (127#8 : Byte).toNat ≤ 127 ∧ (2#8 : Byte) ≤ 127 ∧ LandingKind.ofCode 5 = some .closed ∧
    (∀ e ∈ records.transfers, 2 ≤ e.2.landing → e.2.landing ≤ 127 →
      Part.kindOf (partOf base hall) e.2.landing ≠ .sky) ∧
    (∀ e ∈ records.drops, e.2.kind = .sky → 2 ≤ e.2.landing → e.2.landing ≤ 127 →
      Part.kindOf (partOf base hall) e.2.landing ≠ .sky) ∧
    LandingKind.ofCode 1 = some .sky ∧
    ∃ e ∈ records.transfers, 1 ≤ e.2.landing ∧ e.2.landing ≤ 1 ∧ Part.kindOf (partOf base hall) e.2.landing = .sky := by
  decide

/-- The range, the kind, a transfer entry's landing, and a SKY drop's where no transfer entry is. -/
theorem witness_LandingsAreSet_refused :
    firstFailing (landingChecks records ⟨3, 2, 0⟩) = some .badValue ∧
    firstFailing (landingChecks records ⟨0, 128, 1⟩) = some .badValue ∧
    firstFailing (landingChecks records ⟨0, 127, 6⟩) = some .badValue ∧
    firstFailing (landingChecks records ⟨1, 1, 2⟩) = some .wrongState ∧
    firstFailing (landingChecks { records with transfers := [] } ⟨1, 1, 2⟩) = some .wrongState ∧
    (∃ e ∈ records.drops, e.2.kind = .sky ∧ 1 ≤ e.2.landing ∧ e.2.landing ≤ 1 ∧
      Part.kindOf (partOf base hall) e.2.landing = .sky) := by decide

theorem witness_GroupsAndTransfersAreSet_refused :
    firstFailing (groupChecks records ⟨8, [⟨0, 1⟩], 0⟩) = some .badValue ∧
    firstFailing (groupChecks records ⟨0, [⟨0, 1⟩], 2⟩) = some .badValue ∧
    firstFailing (groupChecks records ⟨0, [⟨0, 0⟩], 0⟩) = some .wrongState ∧
    firstFailing (groupChecks { records with transfers := [] } ⟨0, [⟨1, 1⟩], 1⟩) = some .wrongState ∧
    firstFailing (clearChecks records 8) = some .badValue ∧
    firstFailing (clearChecks records 0) = some .wrongState ∧
    firstFailing (clearChecks { records with transfers := [] } 1) = some .wrongState ∧
    firstFailing (transferChecks records ⟨16, 0, 1, 1⟩) = some .badValue ∧
    firstFailing (transferChecks records ⟨1, 1, 1, 1⟩) = some .badValue ∧
    firstFailing (transferChecks records ⟨1, 0, 2, 1⟩) = some .badValue ∧
    firstFailing (transferChecks records ⟨1, 0, 1, 2⟩) = some .badValue := by decide

theorem witness_GroupsAndTransfersAreSet :
    Ready base hall ∧
    ((1#8 : Byte).toNat < 8 ∧ rangesOk [⟨1, 2⟩, ⟨127, 127⟩] = true ∧ (127#8 : Byte).toNat ≤ 127 ∧
      inRanges [⟨1, 2⟩, ⟨127, 127⟩] 127 = true ∧
      (∀ e ∈ records.transfers, e.2.first = 1 ∨ e.2.second = 1 →
        inRanges [⟨1, 2⟩, ⟨127, 127⟩] e.2.landing = true) ∧
      (∀ e ∈ records.drops, inSet e.2.groups 1 = true → inRanges [⟨1, 2⟩, ⟨127, 127⟩] e.2.landing = true)) ∧
    ((∀ e ∈ records.transfers, e.2.first ≠ 7 ∧ e.2.second ≠ 7) ∧
      ∀ e ∈ records.drops, inSet e.2.groups 7 = false) ∧
    ((15#8 : Byte).toNat < 16 ∧ (0#8 : Byte) ≠ 1 ∧ Part.kindOf (partOf base hall) 1 = .sky ∧
      Part.serves (partOf base hall) 0 1 = true ∧ Part.serves (partOf base hall) 1 1 = true) ∧
    16 ≤ (16#8 : Byte).toNat := by decide

theorem witness_PanelSetResetsTheDrop :
    Ready base hall ∧ (95#8 : Byte).toNat < 96 ∧
    (∃ (code landing : Byte) (groups : Set8) (kind : DropKind),
      PanelFields.configure 95 1 1 2#8 = .configure 95 code landing groups ∧
      DropKind.ofCode code = some kind ∧ landing.toNat ≤ 127 ∧ groups ≠ 0 ∧
      (∀ g ∈ eight, inSet groups g = true → Part.serves (partOf base hall) (byte g) landing = true) ∧
      (kind = .sky → Part.kindOf (partOf base hall) landing = .sky)) ∧
    (∀ e ∈ hall.calls, e.2.drop ≠ (95#8 : Byte).toNat) ∧
    Ready calling callHall ∧ (∃ e ∈ callHall.calls, e.2.drop = (0#8 : Byte).toNat) ∧
    (∀ e ∈ callHall.calls, e.2.drop ≠ (1#8 : Byte).toNat) ∧
    (Part.panelLink (partOf base hall) ((95#8 : Byte).toNat / 16)).poll = none ∧
    (Part.panelLink (partOf calling callHall) ((1#8 : Byte).toNat / 16)).poll.isSome = true :=
  ⟨by decide, by decide, ⟨1, 1, 2#8, .sky, rfl, rfl, by decide, by decide, by decide, fun _ => by decide⟩,
    by decide, by decide, by decide, by decide, by decide, by decide⟩

theorem witness_PanelSetResetsTheDrop_refused :
    firstFailing (panelChecks records hall (.configure 96 0 0 1#8)) = some .badValue ∧
    firstFailing (panelChecks records hall (.configure 95 2 0 1#8)) = some .badValue ∧
    firstFailing (panelChecks records hall (.configure 95 0 2 1#8)) = some .badValue ∧
    firstFailing (panelChecks records hall (.configure 95 1 0 1#8)) = some .badValue ∧
    firstFailing (panelChecks records callHall (.configure 0 0 0 1#8)) = some .wrongState ∧
    firstFailing (panelChecks records hall (.unconfigure 96)) = some .badValue ∧
    firstFailing (panelChecks records callHall (.unconfigure 0)) = some .wrongState := by decide

theorem witness_RetentionReads :
    Ready base hall ∧ (3#8 : Byte) ≠ 0 ∧ (∃ v, tenantAt base.ret 3 = some v) ∧ (1#8 : Byte).toNat < 2 ∧
    (63#8 : Byte).toNat ≤ 63 ∧ (7#8 : Byte).toNat < 8 ∧ (95#8 : Byte).toNat < 96 ∧
    firstFailing (tenantChecks records 0) = some .badValue ∧ firstFailing (tenantChecks records 4) = some .notFound ∧
    2 ≤ (2#8 : Byte).toNat ∧ 63 < (64#8 : Byte).toNat ∧ 8 ≤ (8#8 : Byte).toNat ∧ 96 ≤ (96#8 : Byte).toNat :=
  ⟨by decide, by decide, ⟨_, rfl⟩, by decide, by decide, by decide, by decide, by decide, by decide, by decide, by decide,
    by decide, by decide⟩

theorem witness_MainWellReads :
    Ready calling callHall ∧ badgeKey 7 = true ∧ (∃ t ∈ callHall.tickets, t.badge = 7) ∧
    (∀ t ∈ callHall.tickets, t.badge ≠ 9) ∧
    (∃ t, (0#16 : Half).toNat < 1024 ∧ callHall.tickets[(0#16 : Half).toNat]? = some t) ∧ (95#8 : Byte).toNat < 96 ∧
    (7#8 : Byte).toNat < 8 ∧ ((31#8 : Byte).toNat < 32 ∧ Table.lookup callHall.calls 31 = none) ∧
    Table.lookup callHall.calls (0#8 : Byte).toNat = some ride ∧
    ((5#16 : Half) ≠ 0 ∧ Part.callNumbered (partOf calling callHall) 5 = some (0, ride)) ∧
    (∀ e ∈ callHall.calls, e.2.number ≠ 65535#16) ∧ 1024 ≤ (1024#16 : Half).toNat ∧
    ((1023#16 : Half).toNat < 1024 ∧ callHall.tickets.length ≤ (1023#16 : Half).toNat) ∧ 32 ≤ (32#8 : Byte).toNat :=
  ⟨by decide, by decide, by decide, by decide, ⟨_, by decide, rfl⟩, by decide, by decide, by decide, rfl,
    ⟨by decide, rfl⟩, by decide, by decide, by decide, by decide⟩

theorem witness_AlarmLinesAreSetAndAcknowledged :
    Ready base hall ∧ MainTables hall ∧
    lineConfigOf ⟨7, 1, 0, 1, 25, 2, 3, 0xFF⟩ = some ⟨true, .activeHigh, .edge, 25, .demand .recalled 0xFF⟩ ∧
    lineConfigOf ⟨8, 1, 0, 1, 25, 2, 3, 0xFF⟩ = none ∧ lineConfigOf ⟨7, 1, 0, 1, 26, 2, 3, 0xFF⟩ = none ∧
    lineConfigOf ⟨7, 2, 0, 1, 25, 2, 3, 0xFF⟩ = none := by decide

/-- A RECALL demand of line 0 on group 1; a latch set with no demand held. -/
theorem witness_DemandsAndResume :
    Ready base hall ∧ MainTables hall ∧ (7#8 : Byte).toNat < 8 ∧ demandMode 3 = some .recalled ∧ flagOfCode 0 = some false ∧
    flagOfCode 1 = some true ∧ demandMode 1 = some .opened ∧
    Ready (running { alarm .recalled with lineStatus := 1#8 } hall) hall ∧
    Part.holds (partOf (running { alarm .recalled with lineStatus := 1#8 } hall) hall) (1#8 : Byte).toNat .recalled = true ∧
    (Part.holds (partOf base hall) (7#8 : Byte).toNat .recalled = false ∧ inSet base.ret.latches (7#8 : Byte).toNat = false) ∧
    Ready (running { records with latches := 0x80 } hall) hall ∧
    Part.holds (partOf (running { records with latches := 0x80 } hall) hall) (7#8 : Byte).toNat .recalled = false ∧
    inSet ({ records with latches := 0x80 } : Retention).latches (7#8 : Byte).toNat = true ∧
    8 ≤ (8#8 : Byte).toNat ∧ demandMode 0 = none ∧ flagOfCode 2 = none := by
  refine ⟨by decide, by decide, by decide, rfl, rfl, rfl, rfl, ⟨rfl, rfl⟩, by decide, by decide, ⟨rfl, rfl⟩, by decide,
    by decide, by decide, rfl, rfl⟩

theorem witness_RecallDemandCancelsTheGroup :
    Ready calling callHall ∧ Inv calling ∧ (0#8 : Byte).toNat < 8 ∧
    Part.mode (partOf calling callHall) (0#8 : Byte).toNat ≠ .recalled ∧
    callHall.sendQueue.length + 1 + (callHall.calls.filter fun e => decide (e.2.group = 0)).length ≤ 64 ∧
    (∃ e ∈ callHall.calls, e.2.group = 0 ∧ (Part.drop (partOf calling callHall) e.2.drop).state = .up) :=
  ⟨by decide, lawful_calling, by decide, by decide, by decide, by decide⟩

theorem witness_LineLevelsAreDebounced :
    base.well = .running hall ∧ MainTables hall ∧ Table.get .quiet hall.lines 7 = .quiet ∧
    MainTables (lineHall 2 3) ∧
    Table.get .quiet (lineHall 2 3).lines 0 = ⟨false, true, some 3⟩ ∧ (2 < 3) ∧
    ((alarm .lockdown).lines.any fun e => decide (e.1 = 0 ∧ e.2.debounce = 3)) = true ∧
    (Table.get .defaults ({ alarm .lockdown with lines := [(0, { LineConfig.defaults with debounce := 0 })] } : Retention).lines
      0).debounce = 0 ∧
    (∃ e, (Table.get .quiet (lineHall 3 3).lines 0).timer = some e ∧ e ≤ (lineHall 3 3).now) ∧
    (LineLive.quiet.raw = LineLive.quiet.debounced ∧ LineLive.quiet.timer = none) :=
  ⟨rfl, by decide, rfl, by decide, rfl, by decide, by decide, rfl, ⟨3, rfl, by decide⟩, rfl, rfl⟩

theorem witness_EffectiveModeIsTheHighestDemand :
    inSet (2#8 : Set8) 1 = true ∧
    (∀ mode ∈ [Mode.recalled, .lockdown, .opened],
      Part.holds ⟨{ alarm mode with lineStatus := 1#8 }, hall⟩ 1 mode = true ∧
      ∀ other ∈ [Mode.recalled, .lockdown, .opened], other ≠ mode →
        Part.holds ⟨{ alarm mode with lineStatus := 1#8 }, hall⟩ 1 other = false) ∧
    ∀ mode ∈ [Mode.recalled, .lockdown, .opened], Part.holds ⟨records, hall⟩ 1 mode = false := by decide

theorem witness_AttentionIsAcknowledgedAndEnabled : Ready State.reset Main.fresh := by decide

theorem witness_AttentionLineFollowsStatusAndEnable :
    (State.reset.well = .running Main.fresh ∧ Main.fresh.enables = 0xFFFF#16 ∧ Main.fresh.link ≠ .up) ∧
    (∀ m, (stopped .off).well ≠ .running m) ∧ (stopped .qualifying).well = .qualifying ∧
    ∃ t, exec (.startSequence 0) (stopped .qualifying) = .next t :=
  ⟨by decide, fun _ => by simp [stopped], rfl, ⟨_, rfl⟩⟩

/-- A drop that is eligible, as the statement says it. -/
def Waits (s : State) (m : Main) (i : Nat) : Prop :=
  i < 96 ∧ (Part.drop (partOf s m) i).state = .up ∧ (Part.drop (partOf s m) i).queue ≠ [] ∧
    ∀ e ∈ m.calls, e.2.drop ≠ i
def unknownHall : Main := asking [.badgeOnly 8] hall
def unknownAsks : State := running records unknownHall

theorem witness_DecisionsAreScannedAndAnswered :
    (unknownAsks.well = .running unknownHall ∧ unknownHall.arbiter < 96 ∧ Waits unknownAsks unknownHall 0 ∧
      (∀ j, Waits unknownAsks unknownHall j → (0 + 95 - unknownHall.arbiter) % 96 ≤ (j + 95 - unknownHall.arbiter) % 96)) ∧
    (∀ i, ¬Waits State.reset Main.fresh i) ∧
    Part.chooseDrop (partOf unknownAsks unknownHall) = some 0 ∧
    (Part.drop (partOf unknownAsks unknownHall) 0).queue = .badgeOnly 8 :: [] ∧
    Part.verdict (partOf unknownAsks unknownHall) (Part.drop (partOf unknownAsks unknownHall) 0)
      (Part.dropConfig (partOf unknownAsks unknownHall) 0) (.badgeOnly 8) = (.answer (.denied .unknownBadge), false) := by
  refine ⟨⟨rfl, by decide, ⟨by decide, rfl, by decide, by decide⟩, fun j _ => ?_⟩, fun i h => ?_, by decide +kernel,
    rfl, by decide +kernel⟩
  · exact Nat.zero_le _
  · exact h.2.2.1 rfl

def placeHall : Main := asking [.destination 7 2] hall
def places : State := running records placeHall
/-- The placement of badge 7's trip to landing 2. -/
def ridePlaced : Placement := ⟨some 7, 0, 1, some 2, false, none, true, false, some (1, 1, 2), none⟩

theorem witness_DecisionPlacesACall :
    places.well = .running placeHall ∧ MainTables placeHall ∧ Part.chooseDrop (partOf places placeHall) = some 0 ∧
    (Part.drop (partOf places placeHall) 0).queue = .destination 7 2 :: [] ∧
    Part.verdict (partOf places placeHall) (Part.drop (partOf places placeHall) 0)
      (Part.dropConfig (partOf places placeHall) 0) (.destination 7 2) = (.place ridePlaced, false) ∧
    (0 < 32 ∧ Table.lookup placeHall.calls 0 = none ∧ ∀ k < 0, Table.lookup placeHall.calls k ≠ none) ∧
    ∀ e ∈ placeHall.calls, e.2.number ≠ placeHall.counter + 1 := by
  refine ⟨rfl, by decide, by decide +kernel, rfl, by decide +kernel, by decide, by decide⟩

/-- The counter at its last number, with numbers 1 and 2 held: they are passed over. -/
theorem witness_DecisionPlacesACall_numbers :
    numberAt 65535 1 = 1 ∧ numberAt 65535 3 = 3 ∧
    (∀ j < 2, ∃ e ∈ [(4, { ride with number := 1 }), (5, { ride with number := 2 })],
      Call.number (Prod.snd e) = numberAt 65535 (j + 1)) := by decide

def anonymousHall : Main := asking [.anonymous 1] hall
def anonymous : State := running records anonymousHall

theorem witness_AnonymousTripIsPlaced :
    anonymous.well = .running anonymousHall ∧ MainTables anonymousHall ∧
    Part.chooseDrop (partOf anonymous anonymousHall) = some 0 ∧
    (Part.drop (partOf anonymous anonymousHall) 0).queue = .anonymous 1 :: [] ∧
    Table.lookup records.drops 0 = some ⟨.lobby, 0, 1#8⟩ ∧ (1#8 : Byte) ≠ 0 ∧ inSet (1#8 : Set8) 0 = true ∧
    Part.serves (partOf anonymous anonymousHall) (byte 0) 1 = true ∧ anonymousHall.link = .up ∧
    inSet anonymousHall.inService 0 = true ∧ Part.mode (partOf anonymous anonymousHall) 0 = .normal ∧
    Part.kindOf (partOf anonymous anonymousHall) 1 = .sky ∧ Table.lookup anonymousHall.calls 0 = none := by
  refine ⟨rfl, by decide, by decide +kernel, rfl, rfl, by decide, by decide, by decide, rfl, by decide, rfl, by decide, rfl⟩

/-- The lobby drop with a repeat memory of badge 7 to landing 2. -/
def remembered : DropLive := { DropLive.emptied .up with memory := some ⟨7, 2, 0, 9, 0, 80⟩ }
/-- The part with badge 7's record replaced. -/
def partWith (c : Cred) : Part := ⟨{ records with creds := [(7, c)] }, hall⟩

theorem witness_BadgeChecksInOrder :
    requestBadge (.destination 7 2) = some 7 ∧
    (remembered.memory = some ⟨7, 2, 0, 9, 0, 80⟩ ∧ requestLanding (.destination 7 2) = some 2 ∧
      requestLanding (.badgeOnly 7) = none) ∧
    (∀ k, remembered.memory = some k → k.badge = 7 →
      requestLanding (.destination 7 3) ≠ none ∧ requestLanding (.destination 7 3) ≠ some k.dest) ∧
    State.reset.ret.calendar.valid = false ∧ records.calendar.valid = true ∧ Part.cred ⟨records, hall⟩ 8 = none ∧
    Part.cred (partWith { staff with state := .suspended }) 7 = some { staff with state := .suspended } ∧
    ((partWith { staff with tenant := 4 }).tenant 4).map Tenant.state ≠ some .live ∧
    ((partWith staff).tenant staff.tenant).map Tenant.state = some .live ∧
    (partWith staff).ret.calendar.day < ({ staff with validFrom := 6 } : Cred).validFrom ∧
    staff.validFrom ≤ (partWith staff).ret.calendar.day ∧ (4 : Half) < (partWith staff).ret.calendar.day ∧
    (partWith staff).ret.calendar.day ≤ (5 : Half) ∧
    (∃ e ∈ callHall.calls, e.2.badge = some 7) ∧ (∀ e ∈ hall.calls, e.2.badge ≠ some 7) ∧
    Part.cred (partWith { staff with state := .exhausted, quota := some 0 }) 7 =
      some { staff with state := .exhausted, quota := some 0 } ∧
    ∀ t ∈ ticketHall.tickets, claimable ⟨.sky, 1, 2#8⟩ 7 (some 3) t = false := by
  refine ⟨rfl, ⟨rfl, rfl, rfl⟩, fun k h _ => ?_, rfl, rfl, rfl, rfl, by decide, by decide, by decide, by decide, by decide,
    by decide, by decide, by decide, rfl, by decide⟩
  cases h; decide

/-- Every call slot in use. -/
def fullHall : Main := { hall with calls := (List.range 32).map fun k => (k, { ride with number := BitVec.ofNat 16 (k + 1) }) }

theorem witness_ClaimRouteAndServiceInOrder :
    Main.fresh.link ≠ .up ∧ hall.link = .up ∧ inSet hall.inService 2 = false ∧ inSet hall.inService 1 = true ∧
    (Part.mode ⟨records, { hall with modes := [(1, .recalled)] }⟩ 1 = .recalled ∧
      Part.mode ⟨records, { hall with modes := [(1, .lockdown)] }⟩ 1 = .lockdown ∧ staff.cls ≠ .security ∧
      Part.mode ⟨records, hall⟩ 1 ≠ .recalled ∧ Part.mode ⟨records, hall⟩ 1 ≠ .lockdown) ∧
    ((∀ k < 32, Table.lookup fullHall.calls k ≠ none) ∧ ∃ k < 32, Table.lookup hall.calls k = none) ∧
    (inSet (1#8 : Set8) 0 = true ∧ Part.serves ⟨records, hall⟩ (byte 0) 1 = true) ∧
    (∀ g < 8, inSet (1#8 : Set8) g = true → Part.serves ⟨records, hall⟩ (byte g) 2 = false) ∧
    (∃ g ∈ Route.groups ⟨0, some (1, 2)⟩, inSet hall.inService g.toNat = false) ∧
    (∀ g ∈ Route.groups ⟨0, some (1, 1)⟩, inSet hall.inService g.toNat = true) ∧
    isClass (some (7, staff)) .security = false := by decide +kernel

/-- Badge 7 at the sky drop: with its ticket, with none, and the same at the lobby drop. -/
theorem witness_ClaimRouteAndServiceInOrder_credential :
    PassesCredential ⟨records, ticketHall⟩ (.emptied .up) (.badgeOnly 7) 7 staff ∧
    PassesCredential ⟨records, hall⟩ remembered (.destination 7 3) 7 staff ∧
    (⟨7, 1, 1, 2, .issued 50⟩ ∈ ticketHall.tickets ∧ inSet (2#8 : Set8) (1#8 : Byte).toNat = true ∧
      ∀ u ∈ ticketHall.tickets, u.badge = 7 → u.state.isIssued = true → u = ⟨7, 1, 1, 2, .issued 50⟩) ∧
    (∀ t ∈ hall.tickets, claimable ⟨.sky, 1, 2#8⟩ 7 none t = false) ∧ staff.state ≠ .exhausted ∧
    requestBadge (.anonymous 2) = none := by
  refine ⟨⟨rfl, fun k h => (by cases h), rfl, rfl, by decide, .inr rfl, by decide, fun e h => (by cases h), by decide⟩,
    ⟨rfl, fun k h _ => (by cases h; decide), rfl, rfl, by decide, .inr rfl, by decide, fun e h => (by cases h), by decide⟩,
    by decide, by decide, by decide, rfl⟩

/-- Step 6: a landing carried, a window's destination, the home landing, none; a destination without a route. -/
theorem witness_ClaimRouteAndServiceInOrder_destination :
    destinationOf (.emptied .up) (some 2) none = some 2 ∧
    destinationOf { DropLive.emptied .up with escort := some ⟨3, 2, 0, 9, 0, 0, 300⟩ } none
      (some (7, { staff with escort := true, home := some 4 })) = some 2 ∧
    destinationOf (.emptied .up) none (some (7, { staff with home := some 4 })) = some 4 ∧
    destinationOf (.emptied .up) none (some (7, { staff with home := none })) = none ∧
    Part.route ⟨records, hall⟩ ⟨.lobby, 0, 1#8⟩ 127 = none ∧
    Part.route ⟨records, hall⟩ ⟨.lobby, 0, 1#8⟩ 2 = some ⟨0, some (1, 1)⟩ := by decide

/-- A direct trip and a transfer trip that pass steps 8 and 9; step 10, 11, 12, 13 and 14 each refusing and passing. -/
theorem witness_PermissionByClassAndKind_trip :
    PassesService ⟨records, hall⟩ (some (7, staff)) ⟨0, some (1, 1)⟩ ∧
    PassesService ⟨records, { hall with modes := [(1, .lockdown)] }⟩ (some (7, { staff with cls := .security })) ⟨1, none⟩ ∧
    (isClass (some (9, guest)) .visitor = true ∧ Part.kindOf ⟨records, hall⟩ 3 ≠ .publicLanding ∧
      Part.kindOf ⟨records, hall⟩ 3 ≠ .sky) ∧
    Part.permissionDenial ⟨records, hall⟩ (some (7, staff)) ⟨1, none⟩ 3 = some .notPermitted ∧
    Part.permissionDenial ⟨records, hall⟩ (some (7, staff)) ⟨0, some (1, 1)⟩ 2 = none ∧
    ¬windowAdmits { DropLive.emptied .up with escort := some ⟨3, 2, 0, 9, 0, 4, 300⟩ } staff ∧
    windowAdmits { DropLive.emptied .up with escort := some ⟨3, 2, 0, 9, 0, 3, 300⟩ } staff ∧
    1024 ≤ (List.replicate 1024 (⟨7, 1, 1, 2, .issued 50⟩ : Ticket)).length ∧
    (∀ k < 32, Table.lookup fullHall.calls k ≠ none) ∧ ∃ k < 32, Table.lookup hall.calls k = none := by
  refine ⟨⟨rfl, by decide, by decide, by decide⟩, ⟨rfl, by decide, by decide, by decide⟩, by decide, by decide, by decide,
    ?_, ⟨_, rfl, by decide⟩, le_of_eq List.length_replicate.symm, by decide +kernel, by decide⟩
  rintro ⟨w, h, _, k⟩
  cases h
  exact absurd k (by decide)

theorem witness_PermissionByClassAndKind :
    ({ staff with cls := .security } : Cred).cls = .security ∧
    Part.kindOf ⟨records, hall⟩ 0 = .publicLanding ∧ Part.kindOf ⟨records, hall⟩ 1 = .sky ∧
    Part.kindOf ⟨records, hall⟩ 2 = .tenant ∧ Part.kindOf ⟨records, hall⟩ 3 = .secure ∧
    Part.kindOf ⟨records, hall⟩ 4 = .plant ∧ Part.kindOf ⟨records, hall⟩ 127 = .closed ∧
    Part.mode ⟨records, { hall with modes := [(1, .opened)] }⟩ (Route.last ⟨0, some (1, 1)⟩).toNat = .opened ∧
    Part.mode ⟨records, hall⟩ (Route.last ⟨0, some (1, 1)⟩).toNat ≠ .opened ∧
    staff.cls = .staff ∧ guest.cls = .visitor ∧ guest.tenant = 0 ∧
    Part.tenant ⟨records, hall⟩ staff.tenant = some ⟨.live, [⟨2, 2, 0⟩], 1⟩ ∧
    Part.overlayOf ⟨records, overlayHall⟩ 3 = some (0, ⟨3, [⟨4, 4, 0⟩], none⟩) ∧
    Part.overlayOf ⟨records, { hall with overlays := [(0, ⟨3, [], some .trial⟩)] }⟩ 3 = some (0, ⟨3, [], some .trial⟩) ∧
    staff.trial = false := by decide

theorem witness_GrantTest :
    (∃ g ∈ [(⟨2, 4, 0⟩ : Grant)], g.low ≤ 4 ∧ 4 ≤ g.high ∧ Part.inForce ⟨records, hall⟩ g.schedule = true) ∧
    (∃ g ∈ [(⟨2, 4, 1⟩ : Grant)], g.low ≤ 2 ∧ 2 ≤ g.high) ∧
    (∀ g ∈ [(⟨2, 4, 1⟩ : Grant)], g.low ≤ 2 → 2 ≤ g.high → Part.inForce ⟨records, hall⟩ g.schedule = false) ∧
    (∀ g ∈ [(⟨2, 4, 1⟩ : Grant)], ¬(g.low ≤ 5 ∧ 5 ≤ g.high)) ∧ guest.tenant = 0 := by decide

theorem witness_CallAssignedEndsTheCall :
    calling.well = .running callHall ∧ (254#8 : Byte) ≠ 0xFF#8 ∧
    Part.callNumbered (partOf calling callHall) 5 = some (0, ride) ∧ ride.charge = true ∧ ride.badge = some 7 ∧
    credAt calling.ret 7 = some { staff with reserved := true } ∧ staff.quota = some 2 ∧
    ¬(ride.charge = true ∧ ride.badge = some 9) ∧ (Part.drop (partOf calling callHall) ride.drop).state = .up ∧
    (Part.drop (partOf calling { callHall with drops := [(0, .emptied .down)] }) ride.drop).state ≠ .up := by decide

theorem witness_AssignmentSettlesTheTicket :
    calling.well = .running callHall ∧ Part.callNumbered (partOf calling callHall) 5 = some (0, ride) ∧
    (∃ t, Part.linkedTicket (partOf calling callHall) ⟨5, 0⟩ = some t ∧ t.state = .pending ⟨5, 0⟩) ∧
    (∃ p, ran (.callAssigned 5 9) calling = some p ∧ ∃ v, credAt p.ret 7 = some v ∧ v.state ≠ .suspended ∧
      (tenantAt calling.ret v.tenant).map Tenant.state = some .live) ∧
    (∃ p, ran (.callAssigned 5 9) (running { callRecords with tenants := [(3, ⟨.suspended, [], 1⟩)] } callHall) = some p ∧
      ∃ v, credAt p.ret 7 = some v ∧ v.tenant ≠ 0 ∧ (tenantAt p.ret v.tenant).map Tenant.state ≠ some .live) ∧
    Part.callNumbered (partOf base claimHall) 6 = some (3, claim) ∧
    (∃ t, Part.linkedTicket (partOf base claimHall) ⟨6, 3⟩ = some t ∧ t.state = .claimed 50 ⟨6, 3⟩) ∧
    Part.linkedTicket (partOf calling { callHall with tickets := [] }) ⟨5, 0⟩ = none :=
  ⟨rfl, rfl, ⟨_, rfl, rfl⟩, ⟨_, rfl, _, rfl, by decide, by decide⟩, ⟨_, rfl, _, rfl, by decide, by decide⟩, rfl,
    ⟨_, rfl, rfl⟩, rfl⟩

theorem witness_CallsAreUnwound :
    calling.well = .running callHall ∧ Part.callNumbered (partOf calling callHall) 5 = some (0, ride) ∧
    (15#8 : Byte).toNat < 16 ∧ ride.expiry ≤ ({ callHall with now := 40 } : Main).now ∧ callHall.now < ride.expiry := by
  decide

theorem witness_LateAnswersFindNoCall :
    calling.well = .running callHall ∧ (0#8 : Byte) ≠ 0xFF#8 ∧ (15#8 : Byte).toNat < 16 ∧
    (∀ e ∈ callHall.calls, e.2.number ≠ 6#16) ∧ MainTables callHall ∧ CallsApart calling.ret callHall ∧
    ∃ e ∈ callHall.calls, e.2.number = 5#16 := by decide

theorem witness_DispatchAliveMovesTheLink :
    base.well = .running hall ∧ hall.sendQueue.length ≤ 64 ∧ hall.link = .up ∧ Main.fresh.link = .down ∧
    1 < records.params.linkQualify ∧
    (({ hall with link := .qualifying, aliveRun := 2 } : Main).link = .qualifying ∧ records.params.linkQualify ≤ 2 + 1) := by
  decide

/-- The link UP at the moment its timer ends, and QUALIFYING likewise. -/
def lateHall : Main := { callHall with now := 30 }
def qualifyingHall : Main := { hall with now := 30, link := .qualifying, aliveRun := 1 }

theorem witness_LivenessExpiryTakesTheLinkDown :
    (running callRecords lateHall).well = .running lateHall ∧ Inv (running callRecords lateHall) ∧ lateHall.link = .up ∧
    (∃ e, lateHall.liveness = some e ∧ e ≤ lateHall.now) ∧
    Inv (running records qualifyingHall) ∧ qualifyingHall.link = .qualifying ∧
    (∃ e, qualifyingHall.liveness = some e ∧ e ≤ qualifyingHall.now) ∧
    Inv base ∧ ∀ e, hall.liveness = some e → hall.now < e := by
  refine ⟨rfl, ?_, rfl, ⟨30, rfl, by decide⟩, ?_, rfl, ⟨30, rfl, by decide⟩, lawful_base, fun e h => ?_⟩
  · exact ⟨⟨by decide, by decide, by decide, by decide, by decide⟩,
      ⟨by decide, by decide, by decide, by decide, by decide, by decide, by decide, by decide, by decide, by decide,
        by decide, by decide⟩, rfl⟩
  · exact ⟨⟨by decide, by decide, by decide, by decide, by decide⟩,
      ⟨by decide, by decide, by decide, by decide, by decide, by decide, by decide, by decide, by decide, by decide,
        by decide, by decide⟩, rfl⟩
  · cases h; decide

/-- Drop 0.0 with a memory and a window that end at 80 and 300. -/
def memoryHall (now : Nat) : Main := { hall with
  now := now
  drops := [(0, { remembered with escort := some ⟨3, 2, 0, 9, 0, 0, 300⟩ }), (1, .emptied .up)] }

theorem witness_EndsOfFramesTicketsAndMemories :
    base.well = .running hall ∧ (Part.drop (partOf base hall) 95).memory = none ∧
    (Part.drop (partOf base hall) 95).escort = none ∧
    (∃ k, (Part.drop (partOf base (memoryHall 79)) 0).memory = some k ∧ (memoryHall 79).now < k.ends ∧
      k.ends ≤ (memoryHall 80).now) ∧
    (∃ w, (Part.drop (partOf base (memoryHall 299)) 0).escort = some w ∧ (memoryHall 299).now < w.ends ∧
      w.ends ≤ (memoryHall 300).now) ∧
    (Part.panelLink (partOf base hall) 5).poll = none ∧
    (Part.panelLink (partOf base hall) 0).poll = some ⟨0, none, false, false⟩ :=
  ⟨rfl, rfl, rfl, ⟨_, rfl, by decide, by decide⟩, ⟨_, rfl, by decide, by decide⟩, rfl, rfl⟩

/-- Drop 0.0, which is polled, in a given live state. -/
def polled (d : DropLive) : Main := { hall with drops := [(0, d), (1, .emptied .up)] }

theorem witness_ValidReplyIsTaken :
    base.well = .running hall ∧ (Part.panelLink (partOf base hall) 5).poll = none ∧
    (Part.panelLink (partOf base hall) 0).poll = some ⟨0, none, false, false⟩ ∧ (15 : Fin 16).val ≠ 0 ∧
    (∀ st ∈ [DropState.unconfigured, .down, .qualifying, .up],
      (Part.drop (partOf base (polled { DropLive.emptied .up with state := st })) 0).state = st) ∧
    records.params.dropQualify ≤ 7 + 1 ∧ ¬ records.params.dropQualify ≤ 6 + 1 ∧
    ([Request.badgeOnly 7] : List Request).length < 2 ∧ ¬ ([Request.badgeOnly 7, .anonymous 1] : List Request).length < 2 ∧
    inSet hall.late 0 = false ∧ inSet stragglerHall.late 0 = true ∧
    (Part.panelLink (partOf base stragglerHall) 0).poll = some ⟨1, none, false, false⟩ := by decide

theorem witness_MissEndsThePoll :
    base.well = .running hall ∧ (Part.panelLink (partOf base hall) 5).poll = none ∧
    (Part.panelLink (partOf base hall) 0).poll = some ⟨0, none, false, false⟩ ∧
    (Part.panelLink (partOf base { hall with links := [(0, ⟨some 0, some ⟨0, none, false, true⟩⟩)] }) 0).poll =
      some ⟨0, none, false, true⟩ ∧
    inSet ({ hall with receiving := 1#8 } : Main).receiving 0 = true ∧
    (∀ st ∈ [DropState.unconfigured, .down, .qualifying, .up],
      (Part.drop (partOf base (polled { DropLive.emptied .up with state := st })) 0).state = st) ∧
    1 + 1 < records.params.missLimit ∧ records.params.missLimit ≤ 2 + 1 ∧
    inSet hall.late 0 = false ∧ inSet windowHall.receiving 0 = true ∧ inSet stragglerHall.late 0 = true ∧
    inSet stragglerHall.receiving 0 = true := by decide

theorem witness_WellsAndPins :
    base.ret.intact = true ∧ ({ records with intact := false } : Retention).intact = false ∧ (stopped .off).well = .off ∧
    (stopped .qualifying).well = .qualifying ∧ base.well = .running hall ∧ (true && false) = false ∧
    (false && true) = false ∧ Instr.decision ≠ .startConditionBegins ∧
    exec .decision (stopped .off) = .next (stopped .off) :=
  ⟨by decide, by decide, by decide, by decide, by decide, by decide, by decide, by decide, rfl⟩

/-- A line with no debounce time that is active at start, one with a debounce time, one inactive; link 0 with configured
drops, link 5 with none. -/
theorem witness_StartSequence :
    (stopped .qualifying).well = .qualifying ∧ base.well ≠ .qualifying ∧
    (Table.lookup records.drops (16 * 0 + 0) ≠ none ∧ ∀ b < 0, Table.lookup records.drops (16 * 0 + b) = none) ∧
    (∀ a < 16, Table.lookup records.drops (16 * 5 + a) = none) ∧
    (inSet (0xFE#8 : Set8) 0 ≠ (Table.get .defaults records.lines 0).polarity.inactive ∧
      (Table.get .defaults records.lines 0).debounce ≠ 0) ∧
    inSet (0xFE#8 : Set8) 7 = (Table.get .defaults records.lines 7).polarity.inactive ∧
    (Table.get LineConfig.defaults [(0, { LineConfig.defaults with debounce := 0 })] 0).debounce = 0 := by decide +kernel

/-- A lawful state and a step of it, for the laws that every step keeps. -/
theorem witness_lawful_step :
    Inv calling ∧ (∃ t m, step calling = .next t ∧ t.well = .running m) ∧
    Inv base ∧ ∃ t, step { base with pending := [.callRead 1 .malformed] } = .next t :=
  ⟨lawful_calling, ⟨_, _, rfl, rfl⟩, lawful_base, ⟨_, rfl⟩⟩

end Sys2Proof.Tests
end

section
/-! SUPPORT. The grant test (R105) and the effective floor grants (R42): membership in the covering grants, each outcome
of the test, and what a credential's tenant lends. -/

namespace Sys2Proof.Laws

open Sys2Proof.Machine

/-! ## The grant test -/

-- Elaborated only once the kernel has caught up with the tests above: the proofs that wait for them in parallel, a
-- thread and its stack each, would else reach the check's memory limit.
set_option Elab.async false in
@[simp] theorem mem_covering {grants : List Grant} {dest : Byte} {g : Grant} :
    g ∈ covering grants dest ↔ g ∈ grants ∧ g.low ≤ dest ∧ dest ≤ g.high := by
  simp [covering]

theorem covering_isEmpty {grants : List Grant} {dest : Byte} :
    (covering grants dest).isEmpty = true ↔ ∀ g ∈ grants, ¬(g.low ≤ dest ∧ dest ≤ g.high) := by
  simp [List.isEmpty_iff, List.eq_nil_iff_forall_not_mem]

/-- Some covering grant has its schedule in force. -/
theorem covering_any_inForce {p : Part} {grants : List Grant} {dest : Byte} :
    ((covering grants dest).any fun g => p.inForce g.schedule) = true ↔
      ∃ g ∈ grants, g.low ≤ dest ∧ dest ≤ g.high ∧ p.inForce g.schedule = true := by
  simp [and_assoc]

theorem grantDenial_permitted {p : Part} {grants : List Grant} {dest : Byte}
    (h : ∃ g ∈ grants, g.low ≤ dest ∧ dest ≤ g.high ∧ p.inForce g.schedule = true) : p.grantDenial grants dest = none :=
  if_pos (covering_any_inForce.2 h)

theorem grantDenial_outOfSchedule {p : Part} {grants : List Grant} {dest : Byte}
    (covered : ∃ g ∈ grants, g.low ≤ dest ∧ dest ≤ g.high)
    (none_in_force : ∀ g ∈ grants, g.low ≤ dest → dest ≤ g.high → p.inForce g.schedule = false) :
    p.grantDenial grants dest = some .outOfSchedule := by
  obtain ⟨g, hg, hlow, hhigh⟩ := covered
  have not_permitted : ¬((covering grants dest).any fun g => p.inForce g.schedule) = true := fun h => by
    obtain ⟨k, hk, klow, khigh, force⟩ := covering_any_inForce.1 h
    simp [none_in_force k hk klow khigh] at force
  have not_empty : ¬(covering grants dest).isEmpty = true := fun h => covering_isEmpty.1 h g hg ⟨hlow, hhigh⟩
  rw [Part.grantDenial, if_neg not_permitted, if_neg not_empty]

theorem grantDenial_notPermitted {p : Part} {grants : List Grant} {dest : Byte}
    (h : ∀ g ∈ grants, ¬(g.low ≤ dest ∧ dest ≤ g.high)) : p.grantDenial grants dest = some .notPermitted := by
  have not_permitted : ¬((covering grants dest).any fun g => p.inForce g.schedule) = true := fun any => by
    obtain ⟨g, hg, hlow, hhigh, -⟩ := covering_any_inForce.1 any
    exact h g hg ⟨hlow, hhigh⟩
  rw [Part.grantDenial, if_neg not_permitted, if_pos (covering_isEmpty.2 h)]

/-- The test reads a list of grants as the set of its members. -/
theorem grantDenial_congr {grants grants' : List Grant} (h : ∀ g, g ∈ grants' ↔ g ∈ grants) (p : Part) (dest : Byte) :
    p.grantDenial grants' dest = p.grantDenial grants dest := by
  have same_any : ((covering grants' dest).any fun g => p.inForce g.schedule) =
      (covering grants dest).any fun g => p.inForce g.schedule := by
    rw [Bool.eq_iff_iff, covering_any_inForce, covering_any_inForce]
    simp only [h]
  have same_empty : (covering grants' dest).isEmpty = (covering grants dest).isEmpty := by
    rw [Bool.eq_iff_iff, covering_isEmpty, covering_isEmpty]
    simp only [h]
  rw [Part.grantDenial, Part.grantDenial, same_any, same_empty]

/-! ## The effective floor grants -/

theorem effectiveFloors_tenant_zero (p : Part) {c : Cred} (h : c.tenant = 0) : p.effectiveFloors c = [] := by
  simp [Part.effectiveFloors, h]

section
variable {p : Part} {c : Cred} {v : Tenant} (h0 : c.tenant ≠ 0) (hv : p.tenant c.tenant = some v)
include h0 hv

/-- The floor grants of a present tenant are its own, unless its overlay is applied to the credential (R42). -/
theorem effectiveFloors_of_present : p.effectiveFloors c = (p.overlayOf c.tenant).elim v.grants fun e =>
    if e.2.scope = some .all ∨ (e.2.scope = some .trial ∧ c.trial = true) then e.2.grants else v.grants := by
  unfold Part.effectiveFloors
  rw [if_neg h0, hv]
  cases p.overlayOf c.tenant with
  | none => rfl
  | some e =>
    obtain ⟨k, tenant, grants, scope⟩ := e
    match scope with
    | none => simp
    | some .all => simp
    | some .trial => simp

/-- An overlay applied to all, or to TRIAL credentials for one of them, lends its own grants. -/
theorem effectiveFloors_overlay {k : Nat} {o : Overlay} (ho : p.overlayOf c.tenant = some (k, o))
    (applied : o.scope = some .all ∨ (o.scope = some .trial ∧ c.trial = true)) : p.effectiveFloors c = o.grants := by
  rw [effectiveFloors_of_present h0 hv, ho]
  exact if_pos applied

/-- Without an overlay that is applied to the credential the tenant lends its own grants. -/
theorem effectiveFloors_tenant
    (unapplied : ∀ k o, p.overlayOf c.tenant = some (k, o) →
      o.scope = none ∨ (o.scope = some .trial ∧ c.trial = false)) :
    p.effectiveFloors c = v.grants := by
  rw [effectiveFloors_of_present h0 hv]
  cases ho : p.overlayOf c.tenant with
  | none => rfl
  | some e =>
    obtain unscoped | ⟨trial, notTrial⟩ := unapplied e.1 e.2 ho
    · simp [unscoped]
    · simp [trial, notTrial]

end

end Sys2Proof.Laws

namespace Sys2Proof.Proofs

open Sys2Proof.Laws

/-- Settles O41, by the three outcomes of the grant test and its reading of the grants as a set. -/
theorem grantTest : Obligations.GrantTest := fun p _ dest =>
  ⟨grantDenial_permitted, grantDenial_outOfSchedule, grantDenial_notPermitted,
    fun _ same => grantDenial_congr same p dest, fun _ zero => effectiveFloors_tenant_zero p zero⟩

end Sys2Proof.Proofs
end

section
/-! SUPPORT. Step 11 of a decision (R102 to R104), by the class of the holder and the kind of the landing. -/

namespace Sys2Proof.Laws

open Sys2Proof.Machine

@[simp] theorem isClass_none (k : CredClass) : isClass none k = false := rfl
@[simp] theorem isClass_some (b : Badge) (c : Cred) (k : CredClass) :
    isClass (some (b, c)) k = decide (c.cls = k) := rfl

section
variable {p : Part} {who : Holder} {b : Badge} {c : Cred} {route : Route} {dest : Byte}

theorem permissionDenial_security (h : isClass who .security = true) : p.permissionDenial who route dest = none :=
  if_pos h

theorem permissionDenial_public_or_sky (h : p.kindOf dest = .publicLanding ∨ p.kindOf dest = .sky) :
    p.permissionDenial who route dest = none := by
  obtain kind | kind := h <;> simp [Part.permissionDenial, kind]

theorem permissionDenial_tenant (kind : p.kindOf dest = .tenant) (h : isClass who .security = false) :
    p.permissionDenial who route dest = p.tenantLandingDenial who route dest := by
  simp [Part.permissionDenial, kind, h]

/-- An OPEN destination group permits everyone, with a badge or without (R103). -/
theorem permissionDenial_tenant_opened (kind : p.kindOf dest = .tenant) (opened : p.mode route.last.toNat = .opened) :
    p.permissionDenial who route dest = none := by
  cases security : isClass who .security with
  | true => exact permissionDenial_security security
  | false => exact (permissionDenial_tenant kind security).trans (if_pos opened)

/-- Behind a group that is not OPEN no TENANT landing is reached without a badge (R103). -/
theorem permissionDenial_tenant_anonymous (kind : p.kindOf dest = .tenant) (shut : p.mode route.last.toNat ≠ .opened) :
    p.permissionDenial none route dest = some .badgeNeeded :=
  (permissionDenial_tenant kind (isClass_none _)).trans (if_neg shut)

theorem permissionDenial_tenant_badge (kind : p.kindOf dest = .tenant) (shut : p.mode route.last.toNat ≠ .opened)
    (cls : c.cls ≠ .security) :
    p.permissionDenial (some (b, c)) route dest = p.grantDenial (p.effectiveFloors c ++ c.grants) dest :=
  (permissionDenial_tenant kind (by simp [cls])).trans (if_neg shut)

/-- No SECURE, PLANT or CLOSED landing is reached without a badge (R104). -/
theorem permissionDenial_restricted_anonymous
    (kind : p.kindOf dest = .secure ∨ p.kindOf dest = .plant ∨ p.kindOf dest = .closed) :
    p.permissionDenial none route dest = some .badgeNeeded := by
  obtain kind | kind | kind := kind <;> simp [Part.permissionDenial, kind]

theorem permissionDenial_secure_badge (kind : p.kindOf dest = .secure) (cls : c.cls ≠ .security) :
    p.permissionDenial (some (b, c)) route dest =
      if c.cls = .visitor then some .notPermitted else p.grantDenial c.grants dest := by
  simp [Part.permissionDenial, kind, cls]

theorem permissionDenial_plant_badge (kind : p.kindOf dest = .plant) (cls : c.cls ≠ .security) :
    p.permissionDenial (some (b, c)) route dest = if c.cls = .service then none else some .notPermitted := by
  simp [Part.permissionDenial, kind, cls]

theorem permissionDenial_closed_badge (kind : p.kindOf dest = .closed) (cls : c.cls ≠ .security) :
    p.permissionDenial (some (b, c)) route dest = some .notPermitted := by
  simp [Part.permissionDenial, kind, cls]

end

end Sys2Proof.Laws
end

section
/-! SUPPORT. Steps 8 to 15 of a trip: the service tests that PassesService passes, and the model's tests of steps 10 and
12 to 14 in the terms of the statements. -/

namespace Sys2Proof.Laws

open Sys2Proof.Machine Sys2Proof.Safety

variable {p : Part} {d : DropLive} {cfg : DropConfig} {who : Holder} {route : Route} {dest : Byte}

/-! ## Steps 8 and 9 -/

theorem serviceRefusal_of_passesService (h : PassesService p who route) : p.serviceRefusal route.groups = none := by
  have no_group_out : ¬(route.groups.any fun g => !inSet p.main.inService g.toNat) = true := by
    simpa using h.service
  rw [Part.serviceRefusal, if_neg (not_not_intro h.link), if_neg no_group_out]

theorem modeDenial_of_passesService (h : PassesService p who route) :
    p.modeDenial route.groups (isClass who .security) = none := by
  have no_recall : ¬(route.groups.any fun g => decide (p.mode g.toNat = .recalled)) = true := by
    simpa using h.recalled
  have no_lockdown :
      ¬(!isClass who .security && route.groups.any fun g => decide (p.mode g.toNat = .lockdown)) = true := by
    obtain security | free := h.lockdown
    · simp [security]
    · simpa using fun _ => free
  rw [Part.modeDenial, if_neg no_recall, if_neg no_lockdown]

/-! ## Steps 10 to 15 -/

/-- What `Part.tripVerdict` comes to from step 12 on, for a destination that step 11 permits (R106 to R109). -/
def permittedVerdict (p : Part) (d : DropLive) (who : Holder) (route : Route) (dest : Byte) : Verdict × Bool :=
  if escorted who && !admits d who then (deny .escortRequired, false)
  else if p.poolIsFull who route && isClass who .visitor then (deny .ticketPoolFull, true)
  else if p.freeSlot.isNone then (noCar .callsFull, p.poolIsFull who route)
  else (.place (p.placement d who route dest), p.poolIsFull who route)

section
variable (passes : PassesService p who route)
include passes

/-- Once steps 8 and 9 are passed, step 10 comes first and step 11 second. -/
theorem tripVerdict_of_passesService : p.tripVerdict d cfg who route dest =
    if p.needsTicket cfg who dest then (deny .noTicket, false)
    else (p.permissionDenial who route dest).elim (permittedVerdict p d who route dest)
      fun why => (deny why, false) := by
  unfold Part.tripVerdict
  rw [serviceRefusal_of_passesService passes, modeDenial_of_passesService passes]
  cases p.permissionDenial who route dest <;> rfl

theorem tripVerdict_noTicket (needs : p.needsTicket cfg who dest = true) :
    p.tripVerdict d cfg who route dest = (deny .noTicket, false) := by
  rw [tripVerdict_of_passesService passes, if_pos needs]

theorem tripVerdict_denied (needs : p.needsTicket cfg who dest = false) {why : Denial}
    (denied : p.permissionDenial who route dest = some why) :
    p.tripVerdict d cfg who route dest = (deny why, false) := by
  rw [tripVerdict_of_passesService passes, if_neg (Bool.eq_false_iff.1 needs), denied]
  rfl

theorem tripVerdict_permitted (needs : p.needsTicket cfg who dest = false)
    (permitted : p.permissionDenial who route dest = none) :
    p.tripVerdict d cfg who route dest = permittedVerdict p d who route dest := by
  rw [tripVerdict_of_passesService passes, if_neg (Bool.eq_false_iff.1 needs), permitted]
  rfl

end

theorem needsTicket_eq_decide (p : Part) (cfg : DropConfig) (who : Holder) (dest : Byte) :
    p.needsTicket cfg who dest = decide (cfg.kind = .sky ∧ isClass who .visitor = true ∧
      p.kindOf dest ≠ .publicLanding ∧ p.kindOf dest ≠ .sky) := by
  simp [Part.needsTicket, Bool.decide_and, Bool.and_assoc]

theorem poolIsFull_eq_decide (p : Part) (who : Holder) (route : Route) :
    p.poolIsFull who route =
      decide (route.transfer.isSome = true ∧ who.isSome = true ∧ 1024 ≤ p.main.tickets.length) := by
  simp [Part.poolIsFull, Bool.decide_and, Bool.and_assoc]

/-- The model's test of an escort window is that of the statements. -/
theorem admits_iff {b : Badge} {c : Cred} : admits d (some (b, c)) = true ↔ windowAdmits d c := by
  cases h : d.escort <;> simp [admits, windowAdmits, h]

/-- Step 12 refuses an ESCORT_REQUIRED holder whom no window admits (R106). -/
theorem escort_refuses {b : Badge} {c : Cred} (escort : c.escort = true) (shut : ¬windowAdmits d c) :
    (escorted (some (b, c)) && !admits d (some (b, c))) = true := by
  have not_admitted : admits d (some (b, c)) = false := Bool.eq_false_iff.2 (mt admits_iff.1 shut)
  simp [escorted, escort, not_admitted]

/-- Step 12 is passed by a holder without ESCORT_REQUIRED and by one whom a window admits (R106). -/
theorem escort_passes (h : ∀ b c, who = some (b, c) → c.escort = true → windowAdmits d c) :
    (escorted who && !admits d who) = false := by
  match who with
  | none => rfl
  | some (b, c) =>
    cases escort : c.escort with
    | false => simp [escorted, escort]
    | true => simp [admits_iff.2 (h b c rfl escort)]

theorem freeSlot_isNone_iff : p.freeSlot.isNone = true ↔ ∀ k < 32, Table.lookup p.main.calls k ≠ none := by
  simp [Part.freeSlot]

theorem permittedVerdict_escortRequired (h : (escorted who && !admits d who) = true) :
    permittedVerdict p d who route dest = (deny .escortRequired, false) := if_pos h

section
variable (passes : (escorted who && !admits d who) = false)
include passes

theorem permittedVerdict_ticketPoolFull (full : p.poolIsFull who route = true) (visitor : isClass who .visitor = true) :
    permittedVerdict p d who route dest = (deny .ticketPoolFull, true) := by
  simp [permittedVerdict, passes, full, visitor]

variable (seated : p.poolIsFull who route = false ∨ isClass who .visitor = false)
include seated

/-- Past step 13 the verdict is that of step 14, with the pool's flag of step 13 (R107, R108). -/
theorem permittedVerdict_of_seated : permittedVerdict p d who route dest =
    (if p.freeSlot.isNone then noCar .callsFull else .place (p.placement d who route dest),
      p.poolIsFull who route) := by
  have not_turned_away : (p.poolIsFull who route && isClass who .visitor) = false := by
    rwa [Bool.and_eq_false_iff]
  unfold permittedVerdict
  rw [passes, not_turned_away]
  cases p.freeSlot.isNone <;> rfl

theorem permittedVerdict_callsFull (h : ∀ k < 32, Table.lookup p.main.calls k ≠ none) :
    permittedVerdict p d who route dest = (noCar .callsFull, p.poolIsFull who route) := by
  rw [permittedVerdict_of_seated passes seated, if_pos (freeSlot_isNone_iff.2 h)]

theorem permittedVerdict_placed (h : ∃ k < 32, Table.lookup p.main.calls k = none) :
    permittedVerdict p d who route dest =
      (.place (p.placement d who route dest), p.poolIsFull who route) := by
  obtain ⟨k, hk, free⟩ := h
  rw [permittedVerdict_of_seated passes seated, if_neg fun full => freeSlot_isNone_iff.1 full k hk free]

end

/-- The placement of a trip (R109, R110), field by field from the holder, the route and the escort window. -/
theorem placement_eq (p : Part) (d : DropLive) (who : Holder) (route : Route) (dest : Byte) :
    p.placement d who route dest = {
      badge := who.map Prod.fst
      group := route.first
      firstDest := (route.transfer.map Prod.fst).getD dest
      finalDest := route.transfer.map fun _ => dest
      accessible := who.any fun h => h.2.accessible
      car := if (who.any fun h => h.2.escort) = true then d.escort.map EscortWindow.car else none
      reserve := who.any fun h => h.2.quota.isSome
      admission := who.any fun h => h.2.escort
      newTicket := if who.isSome = true ∧ p.poolIsFull who route = false then
        route.transfer.map fun e => (e.1, e.2, dest) else none
      claim := none } := by
  cases transfer : route.transfer <;> cases who <;> simp [Part.placement, transfer, escorted] <;> rfl

end Sys2Proof.Laws

namespace Sys2Proof.Proofs

open Sys2Proof.Machine Sys2Proof.Safety Sys2Proof.Laws

/-- Settles O40: step 11 by the lemma of each class and kind, then steps 10 to 15 by the branches of the trip's verdict
after steps 8 and 9. -/
theorem permissionByClassAndKind : Obligations.PermissionByClassAndKind := by
  refine ⟨fun p b c route dest => ⟨?security, fun _ => permissionDenial_public_or_sky,
    fun _ => permissionDenial_tenant_opened, ?tenant, permissionDenial_restricted_anonymous, ?secureGrants,
    ?secureVisitor, ?plantService, ?plantOther, permissionDenial_closed_badge, effectiveFloors_tenant_zero p,
    fun v h0 hv => ⟨fun k o => effectiveFloors_overlay h0 hv, effectiveFloors_tenant h0 hv⟩⟩, ?decision⟩
  case security => exact fun cls => permissionDenial_security (by simp [cls])
  case tenant =>
    exact fun kind shut => ⟨permissionDenial_tenant_anonymous kind shut, permissionDenial_tenant_badge kind shut⟩
  case secureGrants =>
    rintro kind (cls | cls) <;> simp [permissionDenial_secure_badge kind, cls]
  case secureVisitor => exact fun kind cls => by simp [permissionDenial_secure_badge kind, cls]
  case plantService => exact fun kind cls => by simp [permissionDenial_plant_badge kind, cls]
  case plantOther =>
    rintro kind (cls | cls) <;> simp [permissionDenial_plant_badge kind, cls]
  case decision =>
    intro p d cfg who route dest needs full passes hneeds hfull
    rw [← needsTicket_eq_decide] at hneeds
    rw [← poolIsFull_eq_decide] at hfull
    subst hneeds hfull
    refine ⟨tripVerdict_noTicket passes, fun needs why => tripVerdict_denied passes needs, fun needs permitted => ?_⟩
    rw [tripVerdict_permitted passes needs permitted, ← placement_eq]
    refine ⟨?escort, fun admitted => ⟨permittedVerdict_ticketPoolFull (escort_passes admitted), fun seated =>
      ⟨permittedVerdict_callsFull (escort_passes admitted) seated,
        permittedVerdict_placed (escort_passes admitted) seated⟩⟩⟩
    rintro b c rfl escort shut
    exact permittedVerdict_escortRequired (escort_refuses escort shut)

end Sys2Proof.Proofs
end

section
/-! SUPPORT. The endings of an assignment item by item (R117 to R120, R127): the record the charge leaves, the tickets the
ticket item leaves, the drop the memories and the answer leave, and the calls beside the one that holds a number. -/

namespace Sys2Proof.Laws

open Sys2Proof.Machine Sys2Proof.Safety

variable (p : Part) (slot : Nat) (c : Call) (car : Byte)

/-! ## The charge (R21) -/

/-- The record that the charge of a call's trip leaves of a record. -/
def chargedRecord (v : Cred) : Cred := if v.reserved then chargeCred v else v

theorem chargedRecord_of_not_reserved {v : Cred} (h : v.reserved = false) : chargedRecord v = v := by
  simp [chargedRecord, h]

theorem chargedRecord_of_reserved {v : Cred} {k : Byte} (reserved : v.reserved = true) (quota : v.quota = some k)
    (pos : k ≠ 0) : chargedRecord v = { v with
      quota := some (k - 1), reserved := false
      state := if k = 1 ∧ v.state = .active then .exhausted else v.state } := by
  have left : byte (k.toNat - 1) = k - 1 := by unfold byte; bv_omega
  have last : k - 1 = 0 ↔ k = 1 := by bv_omega
  simp only [chargedRecord, reserved, if_true, chargeCred, quota, left, last]

/-- The charge leaves the holder's class and tenant. -/
theorem chargedRecord_holder (v : Cred) :
    (chargedRecord v).cls = v.cls ∧ (chargedRecord v).tenant = v.tenant := by
  unfold chargedRecord chargeCred
  split
  · split <;> exact ⟨rfl, rfl⟩
  · exact ⟨rfl, rfl⟩

@[simp] theorem chargeFor_main : (p.chargeFor c).main = p.main := (chargeFor_frame p c).1

@[simp] theorem chargeFor_params : (p.chargeFor c).ret.params = p.ret.params := by rw [(chargeFor_frame p c).2]

@[simp] theorem chargeFor_tenants : (p.chargeFor c).ret.tenants = p.ret.tenants := by rw [(chargeFor_frame p c).2]

theorem linkedTicket_chargeFor (l : CallLink) : (p.chargeFor c).linkedTicket l = p.linkedTicket l := by
  rw [Part.linkedTicket, chargeFor_main, Part.linkedTicket]

/-- The charge item rewrites the record of the badge of a call with a trip to charge, and no other. -/
theorem chargeFor_cred (b : Badge) : (p.chargeFor c).cred b =
    if c.charge = true ∧ c.badge = some b then (p.cred b).map chargedRecord else p.cred b := by
  unfold Part.chargeFor
  split
  next b' charge badge =>
    by_cases same : b = b'
    · subst same
      rw [if_pos ⟨charge, badge⟩]
      exact (modCred_spec p b _).2.2
    · rw [if_neg (by rw [badge]; rintro ⟨-, h⟩; exact same (Option.some.inj h).symm)]
      exact modCred_cred_ne p same _
  next uncharged => rw [if_neg fun h => uncharged b h.1 h.2]

theorem opensWindow_eq (b : Badge) : p.opensWindow b =
    (p.cred b).bind fun v => if v.cls = .staff ∧ v.tenant ≠ 0 then some v.tenant else none := by
  unfold Part.opensWindow
  cases p.cred b <;> rfl

/-- The charge changes neither class nor tenant, so it opens and closes no escort window. -/
theorem opensWindow_chargeFor (b : Badge) : (p.chargeFor c).opensWindow b = p.opensWindow b := by
  rw [opensWindow_eq, opensWindow_eq, chargeFor_cred]
  split
  · cases p.cred b <;> simp [chargedRecord_holder]
  · rfl

/-! ## The ticket item (R118) -/

theorem tenantLive_iff (t : Byte) : p.tenantLive t = true ↔ t = 0 ∨ (p.tenant t).map Tenant.state = some .live := by
  unfold Part.tenantLive Part.tenantIs
  cases p.tenant t <;> simp

/-- A call's badge is entitled to a ticket when it has a record that entitles it. -/
theorem entitled_iff (badge : Option Badge) :
    p.entitled badge = true ↔ ∃ b v, badge = some b ∧ p.cred b = some v ∧ entitles p.ret v := by
  unfold Part.entitled
  cases badge with
  | none => simp
  | some b => cases h : p.cred b <;> simp [h, tenantLive_iff, Part.tenant]

/-- After the charge the record is read as it then stands, and its tenant as before. -/
theorem entitled_chargeFor_iff (badge : Option Badge) : (p.chargeFor c).entitled badge = true ↔
    ∃ b v, badge = some b ∧ (p.chargeFor c).cred b = some v ∧ entitles p.ret v := by
  rw [entitled_iff]
  simp only [entitles, chargeFor_tenants]

theorem not_linkedTo (t : Ticket) (l : CallLink) : (!t.linkedTo l) = decide (t.state.link ≠ some l) := by
  simp [Ticket.linkedTo]

theorem issueTicket_eq (l : CallLink) (expiry : Nat) (t : Ticket) :
    issueTicket l expiry t = if t.state.link = some l then { t with state := .issued expiry } else t := by
  simp [issueTicket, Ticket.linkedTo]

section
variable {p} {badge : Option Badge} {l l' : CallLink} {t : Ticket}

theorem assignTicket_unlinked (h : p.linkedTicket l = none) : p.assignTicket badge l = p := by
  rw [Part.assignTicket, h]

variable (linked : p.linkedTicket l = some t)
include linked

theorem assignTicket_claimed {e : Nat} (claimed : t.state = .claimed e l') :
    (p.assignTicket badge l).main.tickets = p.main.tickets.filter fun u => decide (u.state.link ≠ some l) := by
  rw [Part.assignTicket, linked]
  simp only [claimed, removeTickets_main, not_linkedTo]

variable (pending : t.state = .pending l')
include pending

theorem assignTicket_issues (entitled : p.entitled badge = true) : (p.assignTicket badge l).main.tickets =
    (p.main.tickets.filter fun u => !(u.state.isIssued && decide (u.badge = t.badge))).map fun u =>
      if u.state.link = some l then { u with state := .issued (p.main.now + 600 * p.ret.params.ticketLifetime) } else u := by
  rw [Part.assignTicket, linked]
  simp only [pending, entitled, if_true, withTickets_main]
  exact List.map_congr_left fun u _ => issueTicket_eq l _ u

theorem assignTicket_drops (unentitled : p.entitled badge = false) : (p.assignTicket badge l).main.tickets =
    p.main.tickets.filter fun u => decide (u.state.link ≠ some l) := by
  rw [Part.assignTicket, linked]
  simp only [pending, unentitled, Bool.false_eq_true, if_false, removeTickets_main, not_linkedTo]

end

/-! ## The memories (R119) -/

theorem remember_of_not_up {c : Call} (h : (p.drop c.drop).state ≠ .up) : p.remember c car = p := by
  unfold Part.remember
  split
  · rfl
  · exact if_neg h

theorem remember_drop_ne {j : Nat} (h : j ≠ c.drop) : (p.remember c car).drop j = p.drop j := by
  unfold Part.remember
  split
  · rfl
  · dsimp only
    split
    · exact drop_setDrop_ne p h _
    · rfl

/-- An UP drop remembers a call that names a badge, and opens a window for a STAFF holder's tenant. -/
theorem remember_drop_up {c : Call} (up : (p.drop c.drop).state = .up) : (p.remember c car).drop c.drop =
    { p.drop c.drop with
      memory := c.badge.elim (p.drop c.drop).memory fun b => some
        ⟨b, c.finalDest.getD c.firstDest, c.group, car, p.main.now, p.main.now + 10 * p.ret.params.repeatWindow⟩
      escort := (c.badge.bind p.opensWindow).elim (p.drop c.drop).escort fun t => some
        ⟨t, c.finalDest.getD c.firstDest, c.group, car, p.main.now, 0,
          p.main.now + 10 * p.ret.params.escortWindow⟩ } := by
  unfold Part.remember
  cases c.badge with
  | none => rfl
  | some b =>
    dsimp only
    rw [if_pos up, drop_setDrop_self, Option.bind_some]
    cases p.opensWindow b <;> rfl

theorem tell_drop_ne {i j : Nat} (h : j ≠ i) (a : Answer) : (p.tell i a).drop j = p.drop j := by
  rw [tell_spec]
  split
  · exact drop_setDrop_ne p h _
  · rfl

theorem tell_drop_up {i : Nat} (up : (p.drop i).state = .up) (a : Answer) :
    (p.tell i a).drop i = { p.drop i with answers := (p.drop i).answers ++ [⟨a, false⟩] } := by
  rw [tell_spec, if_pos up, drop_setDrop_self]

theorem tell_of_not_up {i : Nat} (h : (p.drop i).state ≠ .up) (a : Answer) : p.tell i a = p := by
  rw [tell_spec, if_neg h]

/-! ## The assignment as a whole (R117) -/

/-- The part when the trip of an assigned call has been charged and its ticket settled. -/
def settledPart : Part := (p.chargeFor c).assignTicket c.badge ⟨c.number, slot⟩

theorem settledPart_ret : (settledPart p slot c).ret = (p.chargeFor c).ret := (assignTicket_frame _ _ _).1

theorem settledPart_main :
    (settledPart p slot c).main = { p.main with tickets := (settledPart p slot c).main.tickets } := by
  have frame := (assignTicket_frame (p.chargeFor c) c.badge ⟨c.number, slot⟩).2
  rwa [chargeFor_main] at frame

@[simp] theorem settledPart_drop (i : Nat) : (settledPart p slot c).drop i = p.drop i := by
  rw [Part.drop, settledPart_main]
  rfl

theorem settledPart_opensWindow (b : Badge) : (settledPart p slot c).opensWindow b = p.opensWindow b := by
  rw [← opensWindow_chargeFor p c b, opensWindow_eq, opensWindow_eq, Part.cred, settledPart_ret, Part.cred]

theorem settledPart_params : (settledPart p slot c).ret.params = p.ret.params := by
  rw [settledPart_ret, chargeFor_params]

theorem settledPart_now : (settledPart p slot c).main.now = p.main.now := by rw [settledPart_main]

theorem assignCall_eq : p.assignCall slot c car =
    (((settledPart p slot c).remember c car).tell c.drop (.granted c.group car c.firstDest c.finalDest)).free slot := rfl

theorem assignCall_ret : (p.assignCall slot c car).ret = (p.chargeFor c).ret := by
  rw [assignCall_eq, free_ret, tell_ret, (remember_frame _ c car).1, settledPart_ret]

theorem assignCall_cred (b : Badge) : (p.assignCall slot c car).cred b = (p.chargeFor c).cred b := by
  rw [Part.cred, assignCall_ret, Part.cred]

theorem assignCall_tickets : (p.assignCall slot c car).main.tickets = (settledPart p slot c).main.tickets := by
  rw [assignCall_eq, free_main, tell_main, (remember_frame _ c car).2]

theorem assignCall_drop (i : Nat) : (p.assignCall slot c car).drop i =
    (((settledPart p slot c).remember c car).tell c.drop (.granted c.group car c.firstDest c.finalDest)).drop i := rfl

theorem assignCall_drop_ne {j : Nat} (h : j ≠ c.drop) : (p.assignCall slot c car).drop j = p.drop j := by
  rw [assignCall_drop, tell_drop_ne _ h, remember_drop_ne _ _ _ h, settledPart_drop]

theorem assignCall_drop_of_not_up {c : Call} (h : (p.drop c.drop).state ≠ .up) (i : Nat) :
    (p.assignCall slot c car).drop i = p.drop i := by
  have settled : ((settledPart p slot c).drop c.drop).state ≠ .up := by rwa [settledPart_drop]
  rw [assignCall_drop, remember_of_not_up _ _ settled, tell_of_not_up _ settled, settledPart_drop]

/-- The UP drop of an assigned call: its memories set (R119), then GRANTED appended (R120). -/
theorem assignCall_drop_up {c : Call} (up : (p.drop c.drop).state = .up) : (p.assignCall slot c car).drop c.drop =
    { p.drop c.drop with
      answers := (p.drop c.drop).answers ++ [⟨.granted c.group car c.firstDest c.finalDest, false⟩]
      memory := c.badge.elim (p.drop c.drop).memory fun b => some
        ⟨b, c.finalDest.getD c.firstDest, c.group, car, p.main.now, p.main.now + 10 * p.ret.params.repeatWindow⟩
      escort := (c.badge.bind p.opensWindow).elim (p.drop c.drop).escort fun t => some
        ⟨t, c.finalDest.getD c.firstDest, c.group, car, p.main.now, 0,
          p.main.now + 10 * p.ret.params.escortWindow⟩ } := by
  have settled : ((settledPart p slot c).drop c.drop).state = .up := by rwa [settledPart_drop]
  have remembered := remember_drop_up (settledPart p slot c) car settled
  have windows : (settledPart p slot c).opensWindow = p.opensWindow := funext (settledPart_opensWindow p slot c)
  rw [settledPart_drop, settledPart_now, settledPart_params, windows] at remembered
  rw [assignCall_drop, tell_drop_up _ (by rw [remembered]; exact up), remembered]

/-! ## The call that holds a number (R126, R127) -/

section
variable {s : State} {m : Main} (running : s.well = .running m) {number : Half}
include running

theorem exec_callAssigned_found {car : Byte} (ok : car ≠ 0xFF#8) {slot : Nat} {c : Call}
    (found : Part.callNumbered (partOf s m) number = some (slot, c)) :
    exec (.callAssigned number car) s =
      .next (s.withPart (((partOf s m).hunt .dispatcher).assignCall slot c car)) := by
  have found' : ((partOf s m).hunt .dispatcher).callNumbered number = some (slot, c) := found
  rw [exec_callAssigned, whileRunning_running running]
  simp [carOk, ok, Part.assigned, found']

theorem exec_callAssigned_unfound {car : Byte} (ok : car ≠ 0xFF#8)
    (unfound : Part.callNumbered (partOf s m) number = none) :
    exec (.callAssigned number car) s =
      .next (s.withPart (((partOf s m).hunt .dispatcher).send (.callCancel number))) := by
  have unfound' : ((partOf s m).hunt .dispatcher).callNumbered number = none := unfound
  rw [exec_callAssigned, whileRunning_running running]
  simp [carOk, ok, Part.assigned, unfound']

theorem exec_callDeclined_unfound (code : Byte) (unfound : Part.callNumbered (partOf s m) number = none) :
    exec (.callDeclined number code) s = .next (s.withPart ((partOf s m).hunt .dispatcher)) := by
  have unfound' : ((partOf s m).hunt .dispatcher).callNumbered number = none := unfound
  rw [exec_callDeclined, whileRunning_running running]
  simp [Part.declined, unfound']

end

theorem callNumbered_eq_none {number : Half} (h : ∀ e ∈ p.main.calls, e.2.number ≠ number) :
    p.callNumbered number = none := by
  simpa [Part.callNumbered, List.find?_eq_none] using fun k e he => h (k, e) he

theorem callNumbered_isSome {number : Half} (h : ∃ e ∈ p.main.calls, e.2.number = number) :
    ∃ slot c, p.callNumbered number = some (slot, c) := by
  have found : (p.callNumbered number).isSome = true := by
    simpa [Part.callNumbered] using h
  obtain ⟨⟨slot, c⟩, hc⟩ := Option.isSome_iff_exists.1 found
  exact ⟨slot, c, hc⟩

/-- A call found by its number is in flight and holds the number. -/
theorem callNumbered_some {number : Half} {slot : Nat} {c : Call} (h : p.callNumbered number = some (slot, c)) :
    (slot, c) ∈ p.main.calls ∧ c.number = number :=
  ⟨List.mem_of_find?_eq_some h, by simpa using List.find?_some h⟩

/-- Slots and numbers both name a call in flight, so freeing the slot of the call that holds a number leaves the calls
that do not hold it. -/
theorem erase_callNumbered {r : Retention} {m : Main} (tables : MainTables m) (apart : CallsApart r m) {number : Half}
    {slot : Nat} {c : Call} (mem : (slot, c) ∈ m.calls) (holds : c.number = number) :
    Table.erase m.calls slot = m.calls.filter fun e => decide (e.2.number ≠ number) := by
  obtain ⟨-, ⟨sorted, -⟩, -⟩ := tables
  obtain ⟨apart, -⟩ := apart
  have slots : (m.calls.map Prod.fst).Nodup := List.pairwise_map.2 (sorted.imp Nat.ne_of_lt)
  have numbers : (m.calls.map fun e => e.2.number).Nodup := List.pairwise_map.2 (apart.imp And.left)
  have same : ∀ e ∈ m.calls, e.1 = slot ↔ e.2.number = number := fun e he =>
    ⟨fun h => by rw [List.inj_on_of_nodup_map slots he mem h, holds],
      fun h => by rw [List.inj_on_of_nodup_map numbers he mem (h.trans holds.symm)]⟩
  exact List.filter_congr fun e he => decide_eq_decide.2 (not_congr (same e he))

end Sys2Proof.Laws

namespace Sys2Proof.Proofs

open Sys2Proof.Machine Sys2Proof.Safety Sys2Proof.Laws

/-- Settles O42: the frame of an assignment, the record its charge leaves, and the drop its memories and answer leave. -/
theorem callAssignedEndsTheCall : Obligations.CallAssignedEndsTheCall := by
  rintro s m number car slot c dest running ok found rfl
  let p := (partOf s m).hunt .dispatcher
  obtain ⟨ret, main⟩ := assignCall_frame p slot c car
  refine ⟨p.assignCall slot c car, exec_callAssigned_found running ok found, ret, main, ?others, ?charged,
    fun j => assignCall_drop_ne p slot c car, fun down => assignCall_drop_of_not_up p slot car down c.drop, ?told⟩
  case others =>
    intro b uncharged
    exact (assignCall_cred p slot c car b).trans ((chargeFor_cred p c b).trans (if_neg uncharged))
  case charged =>
    intro b v charge badge record
    have charged : credAt (p.assignCall slot c car).ret b = some (chargedRecord v) :=
      calc (p.assignCall slot c car).cred b
        _ = (p.cred b).map chargedRecord := by rw [assignCall_cred, chargeFor_cred, if_pos ⟨charge, badge⟩]
        _ = some (chargedRecord v) := congrArg (Option.map chargedRecord) record
    exact ⟨fun unreserved => by rw [charged, chargedRecord_of_not_reserved unreserved],
      fun k reserved quota pos => by rw [charged, chargedRecord_of_reserved reserved quota pos]⟩
  case told =>
    intro up
    rw [assignCall_drop_up p slot car up]
    cases c.badge with
    | none => rfl
    | some b =>
      have window : p.opensWindow b = (credAt s.ret b).bind fun v =>
        if v.cls = .staff ∧ v.tenant ≠ 0 then some v.tenant else none := opensWindow_eq p b
      rw [Option.bind_some, Option.bind_some, window]
      cases credAt s.ret b with
      | none => rfl
      | some v =>
        rw [Option.bind_some]
        dsimp only
        split <;> rfl

/-- Settles O43: the ticket item reads the part that the charge leaves, and a call with no linked ticket, a PENDING one or
a CLAIMED one are its cases. -/
theorem assignmentSettlesTheTicket : Obligations.AssignmentSettlesTheTicket := by
  intro s m number car slot c running ok found
  let p := (partOf s m).hunt .dispatcher
  have tickets : (p.assignCall slot c car).main.tickets =
      ((p.chargeFor c).assignTicket c.badge ⟨c.number, slot⟩).main.tickets := assignCall_tickets p slot c car
  have kept : (p.chargeFor c).linkedTicket ⟨c.number, slot⟩ = Part.linkedTicket (partOf s m) ⟨c.number, slot⟩ :=
    linkedTicket_chargeFor p c _
  refine ⟨p.assignCall slot c car, exec_callAssigned_found running ok found, fun unlinked => ?unlinked,
    fun t linked => ⟨fun e l claimed => ?claimed, fun l pending =>
      ⟨fun b v badge record active tenant => ?issued, fun barred => ?barred⟩⟩⟩
  case unlinked => rw [tickets, assignTicket_unlinked (kept.trans unlinked), chargeFor_main]; rfl
  case claimed => rw [tickets, assignTicket_claimed (kept.trans linked) claimed, chargeFor_main]; rfl
  case issued =>
    have entitled : (p.chargeFor c).entitled c.badge = true :=
      (entitled_chargeFor_iff p c _).2 ⟨b, v, badge, (assignCall_cred p slot c car b).symm.trans record, active, tenant⟩
    rw [tickets, assignTicket_issues (kept.trans linked) pending entitled, chargeFor_main, chargeFor_params]
    rfl
  case barred =>
    have unentitled : (p.chargeFor c).entitled c.badge = false := by
      refine Bool.eq_false_iff.2 fun entitled => ?_
      obtain ⟨b, v, badge, record, active, tenant⟩ := (entitled_chargeFor_iff p c _).1 entitled
      obtain suspended | ⟨other, dead⟩ := barred b v badge ((assignCall_cred p slot c car b).trans record)
      · exact active suspended
      · exact tenant.elim other dead
    rw [tickets, assignTicket_drops (kept.trans linked) pending unentitled, chargeFor_main]
    rfl

/-- Settles O45: no call is found where none holds the number, and the call found is the one call that holds it. -/
theorem lateAnswersFindNoCall : Obligations.LateAnswersFindNoCall := by
  intro s m number car code running ok _
  refine ⟨fun none_holds => ?unfound, fun tables apart held => ?found⟩
  case unfound =>
    have unfound := callNumbered_eq_none (partOf s m) none_holds
    refine ⟨?_, exec_callDeclined_unfound running code unfound⟩
    rw [exec_callAssigned_unfound running ok unfound, send_spec]
    rfl
  case found =>
    obtain ⟨slot, c, found⟩ := callNumbered_isSome (partOf s m) held
    obtain ⟨mem, holds⟩ := callNumbered_some (partOf s m) found
    obtain ⟨-, main⟩ := assignCall_frame ((partOf s m).hunt .dispatcher) slot c car
    have calls := (congrArg Main.calls main).trans (erase_callNumbered tables apart mem holds)
    refine ⟨_, exec_callAssigned_found running ok found, calls, fun e he => ?_⟩
    rw [calls] at he
    exact of_decide_eq_true (List.mem_filter.1 he).2

end Sys2Proof.Proofs
end

section
/-! SUPPORT. The attention conditions and the attention line (R188 to R191): the sets of conditions bit by bit, what the
attention commands make of the statuses, and the dispatcher link and the enables at the end of the start sequence. -/

namespace Sys2Proof.Laws

open Sys2Proof.Machine Sys2Proof.Safety

/-! ## Sets bit by bit (R204) -/

theorem inSet_bitsOf {w n : Nat} (h : n < w) (test : Nat → Bool) : inSet (bitsOf w test) n = test n := by
  induction w with
  | zero => exact absurd h n.not_lt_zero
  | succ w ih =>
    rw [inSet, bitsOf, BitVec.getLsbD_cons]
    split
    next top => rw [top]
    next below => exact ih (by omega)

theorem inSet_and {w : Nat} (a b : BitVec w) (n : Nat) : inSet (a &&& b) n = (inSet a n && inSet b n) :=
  BitVec.getLsbD_and

theorem ne_zero_iff_inSet {w : Nat} (a : BitVec w) : a ≠ 0 ↔ ∃ n < w, inSet a n = true := by
  constructor
  · intro nonzero
    by_contra none_set
    exact nonzero (BitVec.eq_of_getLsbD_eq fun n h =>
      (Bool.eq_false_iff.2 fun set => none_set ⟨n, h, set⟩).trans BitVec.getLsbD_zero.symm)
  · rintro ⟨n, -, set⟩ rfl
    exact absurd set (by simp [inSet])

variable (p : Part)

/-! ## Statuses (R188, R189) -/

/-- No status depends on what a link is receiving. -/
@[simp] theorem attention_hunt (w : Wire) : (p.hunt w).attention = p.attention := rfl

/-- A status is what it is whatever its enable. -/
@[simp] theorem attention_withEnables (set : Half) : (p.withEnables set).attention = p.attention := rfl

theorem attention_clearSticky_level (set : Half) {n : Nat} (level : n < 11) :
    (p.clearSticky set).attention n = p.attention n := by
  interval_cases n <;> rfl

theorem attention_clearSticky_sticky (set : Half) {n : Nat} (low : 11 ≤ n) (high : n < 16) :
    (p.clearSticky set).attention n = (p.attention n && !inSet set n) := by
  interval_cases n <;> rfl

/-! ## The attention line (R191) -/

theorem attentionLine_iff :
    p.attentionLine = true ↔ ∃ n < 16, p.attention n = true ∧ inSet p.main.enables n = true := by
  rw [Part.attentionLine, decide_eq_true_iff, ne_zero_iff_inSet]
  refine exists_congr fun n => and_congr_right fun place => ?_
  rw [inSet_and, Part.statuses, inSet_bitsOf place, Bool.and_eq_true]

/-- DISPATCHER_DOWN alone asserts the line while every enable is set. -/
theorem attentionLine_of_link_not_up (enabled : p.main.enables = 0xFFFF#16) (down : p.main.link ≠ .up) :
    p.attentionLine = true :=
  (attentionLine_iff p).2 ⟨8, by decide, decide_eq_true down, by rw [enabled]; rfl⟩

section
variable {s : State}

theorem attentionLine_running {m : Main} (h : s.well = .running m) : s.attentionLine = Part.attentionLine (partOf s m) := by
  rw [State.attentionLine, h]

theorem attentionLine_withPart : (s.withPart p).attentionLine = p.attentionLine := rfl

theorem attentionLine_stopped (h : ∀ m, s.well ≠ .running m) : s.attentionLine = false := by
  unfold State.attentionLine
  cases well : s.well with
  | off => rfl
  | qualifying => rfl
  | running m => exact absurd well (h m)

end

/-! ## The link and the enables at the end of the start sequence (R201) -/

/-- What decides, of the main well, whether DISPATCHER_DOWN asserts the attention line. -/
def linkAndEnables : LinkState × Half := (p.main.link, p.main.enables)

theorem linkAndEnables_foldl {f : Part → Nat → Part} (keeps : ∀ q n, linkAndEnables (f q n) = linkAndEnables q)
    (l : List Nat) : linkAndEnables (l.foldl f p) = linkAndEnables p := by
  induction l generalizing p with
  | nil => rfl
  | cons n l ih => exact (ih (f p n)).trans (keeps p n)

theorem linkAndEnables_sendPoll (link : Nat) : linkAndEnables (p.sendPoll link) = linkAndEnables p := by
  rw [linkAndEnables, (sendPoll_frame p link).2]
  rfl

theorem linkAndEnables_startLine (levels : Set8) (n : Nat) :
    linkAndEnables (p.startLine levels n) = linkAndEnables p := by
  unfold Part.startLine
  dsimp only
  split
  · rfl
  · split <;> rfl

theorem linkAndEnables_latch (g : Nat) : linkAndEnables (p.latch g) = linkAndEnables p := by
  rw [linkAndEnables, (latch_spec p g).1, linkAndEnables]

theorem linkAndEnables_notice (g : Nat) : linkAndEnables (p.notice g) = linkAndEnables p := by
  rw [linkAndEnables, notice_main]
  rfl

theorem linkAndEnables_noticeAll : linkAndEnables p.noticeAll = linkAndEnables p :=
  linkAndEnables_foldl p (fun q g => by
    split
    · exact linkAndEnables_notice q g
    · rfl) eight

theorem linkAndEnables_firstPolls : linkAndEnables p.firstPolls = linkAndEnables p :=
  linkAndEnables_foldl p linkAndEnables_sendPoll panelLinks

theorem linkAndEnables_startLines (levels : Set8) : linkAndEnables (p.startLines levels) = linkAndEnables p :=
  calc linkAndEnables (p.startLines levels)
    _ = linkAndEnables (eight.foldl (Part.startLine levels) p) := linkAndEnables_foldl _ linkAndEnables_latch eight
    _ = linkAndEnables p := linkAndEnables_foldl p (fun q => linkAndEnables_startLine q levels) eight

theorem linkAndEnables_startMode (g : Nat) : linkAndEnables (p.startMode g) = linkAndEnables p := rfl

theorem linkAndEnables_startModes : linkAndEnables p.startModes = linkAndEnables p := by
  rw [Part.startModes, linkAndEnables_noticeAll, linkAndEnables_foldl p linkAndEnables_startMode]

/-- The start sequence ends with the dispatcher link DOWN and every enable set. -/
theorem linkAndEnables_startSequence (r : Retention) (levels : Set8) :
    linkAndEnables (startSequence r levels) = (.down, 0xFFFF#16) := by
  rw [startSequence, linkAndEnables_startModes, linkAndEnables_startLines, linkAndEnables_firstPolls]
  rfl

theorem attentionLine_startSequence (r : Retention) (levels : Set8) :
    (startSequence r levels).attentionLine = true := by
  obtain ⟨link, enables⟩ := Prod.mk.inj (linkAndEnables_startSequence r levels)
  exact attentionLine_of_link_not_up _ enables (by rw [link]; decide)

theorem exec_startSequence_qualifying {s : State} (h : s.well = .qualifying) (levels : Set8) :
    exec (.startSequence levels) s = .next (s.withPart (startSequence s.ret.powered levels)) := by
  rw [exec_startSequence, execStartSequence, h]

end Sys2Proof.Laws

namespace Sys2Proof.Proofs

open Sys2Proof.Machine Sys2Proof.Safety Sys2Proof.Laws

/-- Settles O33: ATTN_ACK leaves the part with the named sticky statuses cleared, and the statuses after ATTN_ENABLE are
those before it. -/
theorem attentionIsAcknowledgedAndEnabled : Obligations.AttentionIsAcknowledgedAndEnabled := by
  rintro s m tag set ⟨running, ready⟩
  let p := (partOf s m).hunt .management
  have unheard : p.attention = Part.attention (partOf s m) := attention_hunt _ .management
  refine ⟨⟨p.clearSticky set, ?acknowledged, rfl, rfl, fun n level => ?level, fun n low high => ?sticky⟩, ?enabled⟩
  case acknowledged =>
    exact (exec_attnAck tag _ s).trans (command_ready 0x2F tag takeAttnAck running ready set)
  case level => rw [attention_clearSticky_level p set level, unheard]
  case sticky => rw [attention_clearSticky_sticky p set low high, unheard]
  case enabled =>
    have statuses : (p.withEnables set).statuses = Part.statuses (partOf s m) := by
      rw [Part.statuses, attention_withEnables, unheard, Part.statuses]
    rw [← statuses]
    exact (exec_attnEnable tag _ s).trans (command_ready 0x30 tag takeAttnEnable running ready set)

/-- Settles O34: the line is the meeting of statuses and enables while the main well runs, and the start sequence leaves
DISPATCHER_DOWN to assert it. -/
theorem attentionLineFollowsStatusAndEnable : Obligations.AttentionLineFollowsStatusAndEnable := by
  refine ⟨fun s m running => ?running, fun s => attentionLine_stopped, fun s t levels qualifying started => ?started⟩
  case running =>
    rw [attentionLine_running running]
    exact ⟨attentionLine_iff (partOf s m), attentionLine_of_link_not_up (partOf s m)⟩
  case started =>
    have ended : s.withPart (startSequence s.ret.powered levels) = t :=
      Host.Outcome.next.inj ((exec_startSequence_qualifying qualifying levels).symm.trans started)
    rw [← ended, attentionLine_withPart]
    exact attentionLine_startSequence s.ret.powered levels

end Sys2Proof.Proofs
end

section
/-! SUPPORT. The start sequence (R201), phase by phase: the first polls, the lines, the latches, the modes and their
notices. Each phase treats the numbers of its list once, and is said by what it replaces and by what a read of each
number then gives. -/

namespace Sys2Proof.Laws

open Sys2Proof.Machine Sys2Proof.Safety

/-! ## A fold that treats each number once -/

section
variable {β : Type} {f : Part → Nat → Part} {read : Part → Nat → β}

theorem foldl_read_of_not_mem (elsewhere : ∀ q n k, k ≠ n → read (f q n) k = read q k) (l : List Nat) (p : Part)
    {k : Nat} (absent : k ∉ l) : read (l.foldl f p) k = read p k :=
  List.foldlRecOn l f (motive := fun q => read q k = read p k) rfl fun q kept n mem =>
    (elsewhere q n k fun same => absent (same ▸ mem)).trans kept

/-- What a fold leaves at a number it treats is what the one step at that number leaves there, taken of a part that has
what every step keeps and that reads there as the first part did. -/
theorem foldl_read_of_mem {Keeps : Part → Prop} {start : Nat → β} {Reads : Nat → β → Prop}
    (keeps : ∀ q n, Keeps q → Keeps (f q n))
    (elsewhere : ∀ q n k, k ≠ n → read (f q n) k = read q k) {l : List Nat} (nodup : l.Nodup)
    (here : ∀ q, ∀ n ∈ l, Keeps q → read q n = start n → Reads n (read (f q n) n)) {p : Part} (kept : Keeps p)
    (starts : ∀ k ∈ l, read p k = start k) : ∀ k ∈ l, Reads k (read (l.foldl f p) k) := by
  induction l generalizing p with
  | nil => exact fun k mem => absurd mem List.not_mem_nil
  | cons n l ih =>
    obtain ⟨absent, nodup⟩ := List.nodup_cons.1 nodup
    intro k mem
    obtain rfl | later := List.mem_cons.1 mem
    · rw [List.foldl_cons, foldl_read_of_not_mem elsewhere l _ absent]
      exact here p k mem kept (starts k mem)
    · have starts' : ∀ j ∈ l, read (f p n) j = start j := fun j hj =>
        (elsewhere p n j fun same => absent (same ▸ hj)).trans (starts j (List.mem_cons_of_mem n hj))
      exact ih nodup (fun q j hj => here q j (List.mem_cons_of_mem n hj)) (keeps p n kept) starts' k later

end

/-! ## Tables and sets -/

theorem lookup_map {α β : Type} (f : α → β) (t : Table α) (n : Nat) :
    Table.lookup (t.map fun e => (e.1, f e.2)) n = (Table.lookup t n).map f := by
  induction t with
  | nil => rfl
  | cons e t ih =>
    obtain ⟨k, v⟩ := e
    rw [List.map_cons, lookup_cons, lookup_cons, ih]
    split <;> rfl

theorem inSet_setPut_self {w n : Nat} (h : n < w) (s : BitVec w) (b : Bool) : inSet (setPut s n b) n = b :=
  (inSet_bitsOf h _).trans (if_pos rfl)

theorem inSet_setPut_ne {w n k : Nat} (h : k ≠ n) (s : BitVec w) (b : Bool) : inSet (setPut s n b) k = inSet s k := by
  by_cases place : k < w
  · exact (inSet_bitsOf place _).trans (if_neg h)
  · have beyond : w ≤ k := Nat.le_of_not_lt place
    rw [inSet, inSet, BitVec.getLsbD_of_ge _ _ beyond, BitVec.getLsbD_of_ge _ _ beyond]

theorem mem_eight {n : Nat} : n ∈ eight ↔ n < 8 := by
  simp only [eight, List.mem_cons, List.not_mem_nil, or_false]
  omega

theorem mem_panelLinks {l : Nat} : l ∈ panelLinks ↔ l < 6 := by
  simp only [panelLinks, List.mem_cons, List.not_mem_nil, or_false]
  omega

variable {p : Part}

/-! ## The first polls (R201, item 4) -/

/-- Polls that carry no answer have been sent: positions and outstanding polls alone have changed. -/
structure PollsSent (p q : Part) : Prop where
  ret : q.ret = p.ret
  main : q.main = { p.main with drops := q.main.drops, links := q.main.links }
  drop : ∀ n, q.drop n = p.drop n

theorem PollsSent.refl (p : Part) : PollsSent p p := ⟨rfl, rfl, fun _ => rfl⟩

theorem markCarried_of_unanswered {d : DropLive} (h : d.answers = []) : markCarried d.answers = d.answers := by
  rw [h]
  rfl

/-- A poll of a drop that has no answer leaves every drop as it was. -/
theorem drop_sendPoll_of_unanswered (unanswered : ∀ n, (p.drop n).answers = []) (link n : Nat) :
    (p.sendPoll link).drop n = p.drop n := by
  unfold Part.sendPoll
  dsimp only
  split
  next => rfl
  next =>
    split
    next => rfl
    next a _ =>
      rw [markCarried_of_unanswered (unanswered _)]
      change (p.setDrop (dropIndex link a) (p.drop (dropIndex link a))).drop n = p.drop n
      by_cases polled : n = dropIndex link a
      · rw [polled, drop_setDrop_self]
      · exact drop_setDrop_ne p polled _

theorem panelLink_sendPoll_ne (p : Part) {link l : Nat} (h : l ≠ link) :
    (p.sendPoll link).panelLink l = p.panelLink l := by
  cases outstanding : (p.panelLink link).poll with
  | none => exact (sendPoll_spec p outstanding).links l h
  | some poll =>
    have unsent : p.sendPoll link = p := by simp [Part.sendPoll, outstanding]
    rw [unsent]

theorem PollsSent.sendPoll {q : Part} (unanswered : ∀ n, (p.drop n).answers = []) (sent : PollsSent p q) (link : Nat) :
    PollsSent p (q.sendPoll link) := by
  obtain ⟨ret, main⟩ := sendPoll_frame q link
  have still : ∀ n, (q.drop n).answers = [] := fun n => by rw [sent.drop, unanswered]
  exact ⟨ret.trans sent.ret, by rw [main, sent.main],
    fun n => (drop_sendPoll_of_unanswered still link n).trans (sent.drop n)⟩

/-- A panel link after its first poll: its lowest configured address is polled, with no answer; a link with no
configured drop is as it was (R151, R201). -/
def FirstPolled (r : Retention) (l : Nat) (k : PanelLink) : Prop :=
  (∀ a < 16, Table.lookup r.drops (16 * l + a) ≠ none → (∀ b < a, Table.lookup r.drops (16 * l + b) = none) →
    k = ⟨some a, some ⟨a, none, false, false⟩⟩) ∧
  ((∀ a < 16, Table.lookup r.drops (16 * l + a) = none) → k = .fresh)

theorem firstPolled_sendPoll (unanswered : ∀ n, (p.drop n).answers = []) {link : Nat}
    (fresh : p.panelLink link = .fresh) :
    FirstPolled p.ret link ((p.sendPoll link).panelLink link) := by
  have spec := sendPoll_spec p (link := link) (by rw [fresh]; rfl)
  refine ⟨fun a place configured lowest => ?_, fun bare => by rw [spec.silent bare, fresh]⟩
  have next : nextPolled (fun b => decide (b < 16) && (Table.lookup p.ret.drops (16 * link + b)).isSome)
      (p.panelLink link).position a := by
    have least : ∀ b, (decide (b < 16) && (Table.lookup p.ret.drops (16 * link + b)).isSome) = true → a ≤ b :=
      fun b polled => Nat.le_of_not_lt fun below => by simp [lowest b below] at polled
    refine ⟨place, by simp [place, Option.isSome_iff_ne_none, configured],
      .inl ⟨fun q above => ?_, fun b polled _ => least b polled⟩⟩
    rw [fresh] at above
    cases above
  obtain ⟨polled, -⟩ := spec.poll a next
  rw [polled, unanswered]
  rfl

section
variable (unanswered : ∀ n, (p.drop n).answers = [])
include unanswered

theorem firstPolls_sent : PollsSent p p.firstPolls :=
  List.foldlRecOn panelLinks Part.sendPoll (PollsSent.refl p) fun _ sent l _ => sent.sendPoll unanswered l

theorem firstPolls_panelLink (fresh : ∀ l, p.panelLink l = .fresh) :
    ∀ l ∈ panelLinks, FirstPolled p.ret l (p.firstPolls.panelLink l) := by
  refine foldl_read_of_mem (Keeps := PollsSent p) (read := Part.panelLink) (start := fun _ => .fresh)
    (fun _ l sent => sent.sendPoll unanswered l) (fun q n k => panelLink_sendPoll_ne q) (by decide)
    (fun q l _ sent fresh => ?_) (PollsSent.refl p) fun l _ => fresh l
  rw [← sent.ret]
  exact firstPolled_sendPoll (fun n => by rw [sent.drop, unanswered]) fresh

end

/-! ## The lines (R171, R201, item 6) -/

/-- Live states and statuses of lines alone have changed. -/
structure LinesReplaced (p q : Part) : Prop where
  ret : q.ret = { p.ret with lineStatus := q.ret.lineStatus }
  main : q.main = { p.main with lines := q.main.lines }

theorem LinesReplaced.refl (p : Part) : LinesReplaced p p := ⟨rfl, rfl⟩

/-- A line at start, by its raw level: inactive, active with a debounce to run, active at once. -/
def LineStarted (cfg : LineConfig) (raw status : Bool) (after : LineLive × Bool) : Prop :=
  (raw = cfg.polarity.inactive → after.1 = ⟨raw, raw, none⟩ ∧ after.2 = status) ∧
  (raw ≠ cfg.polarity.inactive → cfg.debounce ≠ 0 →
    after.1 = ⟨raw, !raw, some cfg.debounce⟩ ∧ after.2 = status) ∧
  (raw ≠ cfg.polarity.inactive → cfg.debounce = 0 → after.1 = ⟨raw, raw, none⟩ ∧ after.2 = true)

/-- A line's live state with its status. -/
def lineAndStatus (p : Part) (n : Nat) : LineLive × Bool := (p.lineLive n, inSet p.ret.lineStatus n)

theorem lineLive_setLine_self (p : Part) (n : Nat) (l : LineLive) : (p.setLine n l).lineLive n = l :=
  get_set_self _ _ _ _

theorem lineLive_setLine_ne (p : Part) {n k : Nat} (h : k ≠ n) (l : LineLive) :
    (p.setLine n l).lineLive k = p.lineLive k :=
  get_set_ne _ _ _ _ _ h

section
variable (p) (levels : Set8)

theorem startLine_inactive {n : Nat} (rest : inSet levels n = (p.lineConfig n).polarity.inactive) :
    p.startLine levels n = p.setLine n ⟨inSet levels n, inSet levels n, none⟩ := by
  simp [Part.startLine, ← rest]

theorem startLine_undelayed {n : Nat} (active : inSet levels n ≠ (p.lineConfig n).polarity.inactive)
    (undelayed : (p.lineConfig n).debounce = 0) :
    p.startLine levels n = (p.setLine n ⟨inSet levels n, inSet levels n, none⟩).setStatus n := by
  simp [Part.startLine, active, undelayed]

theorem startLine_delayed {n : Nat} (active : inSet levels n ≠ (p.lineConfig n).polarity.inactive)
    (delayed : (p.lineConfig n).debounce ≠ 0) :
    p.startLine levels n =
      p.setLine n ⟨inSet levels n, !inSet levels n, some (p.main.now + (p.lineConfig n).debounce)⟩ := by
  have rest : (p.lineConfig n).polarity.inactive = !inSet levels n := Bool.eq_not.2 active.symm
  simp [Part.startLine, rest, delayed]

/-- A line at start takes a live state, and sets its status or not. -/
theorem startLine_cases (n : Nat) : ∃ live, p.startLine levels n = p.setLine n live ∨
    p.startLine levels n = (p.setLine n live).setStatus n := by
  by_cases rest : inSet levels n = (p.lineConfig n).polarity.inactive
  · exact ⟨_, .inl (startLine_inactive p levels rest)⟩
  · by_cases undelayed : (p.lineConfig n).debounce = 0
    · exact ⟨_, .inr (startLine_undelayed p levels rest undelayed)⟩
    · exact ⟨_, .inl (startLine_delayed p levels rest undelayed)⟩

theorem lineAndStatus_startLine_ne {n k : Nat} (h : k ≠ n) :
    lineAndStatus (p.startLine levels n) k = lineAndStatus p k := by
  obtain ⟨live, taken | taken⟩ := startLine_cases p levels n
  · exact Prod.ext (by rw [taken]; exact lineLive_setLine_ne p h live) (by rw [taken]; rfl)
  · exact Prod.ext (by rw [taken]; exact lineLive_setLine_ne p h live) (by rw [taken]; exact inSet_setPut_ne h _ _)

theorem lineStarted_startLine {n : Nat} (place : n < 8) (start : p.main.now = 0) :
    LineStarted (p.lineConfig n) (inSet levels n) (inSet p.ret.lineStatus n)
      (lineAndStatus (p.startLine levels n) n) := by
  refine ⟨fun rest => ?_, fun active delayed => ?_, fun active undelayed => ?_⟩
  · rw [startLine_inactive p levels rest]
    exact ⟨lineLive_setLine_self p n _, rfl⟩
  · rw [startLine_delayed p levels active delayed, start, Nat.zero_add]
    exact ⟨lineLive_setLine_self p n _, rfl⟩
  · rw [startLine_undelayed p levels active undelayed]
    exact ⟨lineLive_setLine_self p n _, inSet_setPut_self place _ _⟩

theorem LinesReplaced.startLine {p q : Part} (replaced : LinesReplaced p q) (n : Nat) :
    LinesReplaced p (q.startLine levels n) := by
  obtain ⟨live, taken | taken⟩ := startLine_cases q levels n
  · exact ⟨by rw [taken, setLine_ret, replaced.ret], by rw [taken, setLine_main, replaced.main]⟩
  · rw [taken]
    exact ⟨by rw [Part.setStatus, withLineStatus_ret, setLine_ret, replaced.ret],
      by rw [Part.setStatus, withLineStatus_main, setLine_main, replaced.main]⟩

/-- The lines at start, before the latches of their demands. -/
def lined : Part := eight.foldl (Part.startLine levels) p

theorem lined_replaced : LinesReplaced p (lined p levels) :=
  List.foldlRecOn eight (Part.startLine levels) (LinesReplaced.refl p) fun _ replaced n _ => replaced.startLine levels n

theorem lined_started (start : p.main.now = 0) : ∀ n ∈ eight,
    LineStarted (p.lineConfig n) (inSet levels n) (inSet p.ret.lineStatus n) (lineAndStatus (lined p levels) n) := by
  refine foldl_read_of_mem (Keeps := LinesReplaced p) (read := lineAndStatus) (start := lineAndStatus p)
    (Reads := fun n => LineStarted (p.lineConfig n) (inSet levels n) (inSet p.ret.lineStatus n))
    (fun _ n replaced => replaced.startLine levels n) (fun q n k => lineAndStatus_startLine_ne q levels)
    (by decide) (fun q n place replaced same => ?_) (LinesReplaced.refl p) fun _ _ => rfl
  have config : q.lineConfig n = p.lineConfig n := by rw [Part.lineConfig, replaced.ret, Part.lineConfig]
  have status : inSet q.ret.lineStatus n = inSet p.ret.lineStatus n := congrArg Prod.snd same
  rw [← config, ← status]
  exact lineStarted_startLine q levels (mem_eight.1 place) (by rw [replaced.main, start])

end

/-! ## The latches and the modes (R176, R178, R201, items 6 and 7) -/

/-- The demands held on a group do not read the latches. -/
theorem holds_withLatches (p : Part) (l : Set8) (g : Nat) (k : Mode) : (p.withLatches l).holds g k = p.holds g k := rfl

/-- The effective mode of a group does not read the held modes. -/
theorem effectiveMode_withModes (p : Part) (t : Table Mode) (g : Nat) :
    (p.withModes t).effectiveMode g = p.effectiveMode g := rfl

theorem latch_eq_withLatches (p : Part) (g : Nat) : p.latch g = p.withLatches (p.latch g).ret.latches := by
  unfold Part.latch
  split <;> rfl

theorem inSet_latch_self (p : Part) {g : Nat} (place : g < 8) :
    inSet (p.latch g).ret.latches g = (inSet p.ret.latches g || p.holds g .recalled) := by
  unfold Part.latch
  split
  next demand =>
    rw [demand, Bool.or_true]
    exact inSet_setPut_self place _ _
  next free => rw [Bool.eq_false_iff.2 free, Bool.or_false]

theorem inSet_latch_ne (p : Part) {g k : Nat} (h : k ≠ g) :
    inSet (p.latch g).ret.latches k = inSet p.ret.latches k := by
  unfold Part.latch
  split
  · exact inSet_setPut_ne h _ _
  · rfl

/-- Each group's latch is set where a RECALL demand is held, and nothing else changes. -/
theorem foldl_latch_spec (p : Part) : ∃ latches, eight.foldl Part.latch p = p.withLatches latches ∧
    ∀ g ∈ eight, inSet latches g = (inSet p.ret.latches g || p.holds g .recalled) := by
  have keeps : ∀ q g, q = p.withLatches q.ret.latches → q.latch g = p.withLatches (q.latch g).ret.latches :=
    fun q g kept =>
      calc q.latch g
        _ = q.withLatches (q.latch g).ret.latches := latch_eq_withLatches q g
        _ = (p.withLatches q.ret.latches).withLatches (q.latch g).ret.latches := congrArg (Part.withLatches · _) kept
        _ = p.withLatches (q.latch g).ret.latches := rfl
  refine ⟨_, List.foldlRecOn eight Part.latch (motive := fun q => q = p.withLatches q.ret.latches) rfl
      fun q kept g _ => keeps q g kept, ?_⟩
  refine foldl_read_of_mem (read := fun q => inSet q.ret.latches) (start := inSet p.ret.latches)
    (Reads := fun g set => set = (inSet p.ret.latches g || p.holds g .recalled)) keeps
    (fun q n k => inSet_latch_ne q) (by decide) (fun q g place kept same => ?_) rfl fun _ _ => rfl
  have held : q.holds g .recalled = p.holds g .recalled := by rw [kept, holds_withLatches]
  rw [← held, ← same]
  exact inSet_latch_self q (mem_eight.1 place)

/-- Each group's mode is the effective one, and nothing else changes. -/
theorem foldl_startMode_spec (p : Part) : ∃ modes, eight.foldl Part.startMode p = p.withModes modes ∧
    ∀ g ∈ eight, (p.withModes modes).mode g = p.effectiveMode g := by
  have keeps : ∀ q g, q = p.withModes q.main.modes → q.startMode g = p.withModes (q.startMode g).main.modes := by
    intro q g kept
    rw [kept]
    rfl
  have kept : eight.foldl Part.startMode p = p.withModes (eight.foldl Part.startMode p).main.modes :=
    List.foldlRecOn eight Part.startMode (motive := fun q => q = p.withModes q.main.modes) rfl
      fun q kept g _ => keeps q g kept
  refine ⟨_, kept, ?_⟩
  rw [← kept]
  refine foldl_read_of_mem (read := Part.mode) (start := p.mode) (Reads := fun g k => k = p.effectiveMode g) keeps
    (fun q n k other => get_set_ne _ _ _ _ _ other) (by decide) (fun q g _ kept _ => ?_) rfl fun _ _ => rfl
  calc (q.startMode g).mode g
    _ = q.effectiveMode g := get_set_self _ _ _ _
    _ = p.effectiveMode g := by rw [kept, effectiveMode_withModes]

/-! ## The notices (R133, R181) -/

/-- The notices of the configured groups of a list. -/
def noticesOf (p : Part) (gs : List Nat) : List DispatcherFrame :=
  (gs.filter fun g => (Table.lookup p.ret.groups g).isSome).map fun g =>
    .modeNotice (byte g) (p.mode g) (p.recallLandingOf g)

theorem noticesOf_eight (p : Part) : noticesOf p eight = notices p := rfl

theorem noticesOf_cons (p : Part) (g : Nat) (gs : List Nat) : noticesOf p (g :: gs) =
    (if (Table.lookup p.ret.groups g).isSome then [.modeNotice (byte g) (p.mode g) (p.recallLandingOf g)] else []) ++
      noticesOf p gs := by
  rw [noticesOf, List.filter_cons]
  split <;> rfl

/-- The notice of a group that is configured, as `Part.noticeAll` asks for it. -/
def noticeConfigured (p : Part) (g : Nat) : Part := if (Table.lookup p.ret.groups g).isSome then p.notice g else p

theorem noticeAll_eq_foldl (p : Part) : p.noticeAll = eight.foldl noticeConfigured p := rfl

/-- While the send queue has room every notice joins it, and nothing else changes. -/
theorem foldl_noticeConfigured (gs : List Nat) (p : Part)
    (room : p.main.sendQueue.length + gs.length ≤ Config.sendQueue) :
    gs.foldl noticeConfigured p = p.withSendQueue (p.main.sendQueue ++ noticesOf p gs) := by
  induction gs generalizing p with
  | nil => rw [noticesOf, List.filter_nil, List.map_nil, List.append_nil]; rfl
  | cons g gs ih =>
    rw [List.length_cons] at room
    rw [List.foldl_cons, noticesOf_cons, noticeConfigured]
    split
    · have fits : p.main.sendQueue.length < Config.sendQueue := by omega
      rw [Part.notice, send_spec, if_pos fits, ih, ← List.append_assoc]
      · rfl
      · simp only [withSendQueue_main, List.length_append, List.length_singleton]
        omega
    · exact ih p (by omega)

theorem noticeAll_of_empty (p : Part) (empty : p.main.sendQueue = []) : p.noticeAll = p.withSendQueue (notices p) := by
  have room : p.main.sendQueue.length + eight.length ≤ Config.sendQueue := by rw [empty]; decide
  rw [noticeAll_eq_foldl, foldl_noticeConfigured eight p room, empty, noticesOf_eight, List.nil_append]

/-! ## The whole sequence -/

/-- The part after items 1 to 3 of the start sequence, with every configured drop DOWN (R201). -/
def begunPart (r : Retention) : Part :=
  ⟨{ r with creds := clearReservations r.creds }, { Main.fresh with drops := startDrops r.drops }⟩

theorem drop_begunPart (r : Retention) (n : Nat) :
    (begunPart r).drop n = if (Table.lookup r.drops n).isSome then .emptied .down else .unconfigured := by
  have listed : Table.lookup (startDrops r.drops) n =
      (Table.lookup r.drops n).map fun _ => DropLive.emptied .down :=
    lookup_map (fun _ => DropLive.emptied .down) r.drops n
  rw [Part.drop, Table.get, begunPart, listed]
  cases Table.lookup r.drops n <;> rfl

theorem unanswered_begunPart (r : Retention) (n : Nat) : ((begunPart r).drop n).answers = [] := by
  rw [drop_begunPart]
  split <;> rfl

/-- The part when the first polls have been sent and the lines have been started. -/
def linedPart (r : Retention) (levels : Set8) : Part := lined (begunPart r).firstPolls levels

theorem firstPolls_begunPart (r : Retention) : PollsSent (begunPart r) (begunPart r).firstPolls :=
  firstPolls_sent (unanswered_begunPart r)

theorem linedPart_replaced (r : Retention) (levels : Set8) :
    LinesReplaced (begunPart r).firstPolls (linedPart r levels) := lined_replaced _ levels

theorem linedPart_ret (r : Retention) (levels : Set8) : (linedPart r levels).ret =
    { r with creds := clearReservations r.creds, lineStatus := (linedPart r levels).ret.lineStatus } := by
  rw [(linedPart_replaced r levels).ret, (firstPolls_begunPart r).ret]
  rfl

theorem linedPart_main (r : Retention) (levels : Set8) : (linedPart r levels).main =
    { Main.fresh with
      drops := (linedPart r levels).main.drops, links := (linedPart r levels).main.links
      lines := (linedPart r levels).main.lines } := by
  rw [(linedPart_replaced r levels).main, (firstPolls_begunPart r).main]
  rfl

theorem linedPart_drop (r : Retention) (levels : Set8) (n : Nat) : (linedPart r levels).drop n =
    if (Table.lookup r.drops n).isSome then .emptied .down else .unconfigured := by
  rw [← drop_begunPart, ← (firstPolls_begunPart r).drop, Part.drop, (linedPart_replaced r levels).main, Part.drop]

theorem linedPart_panelLink (r : Retention) (levels : Set8) {l : Nat} (place : l < 6) :
    FirstPolled r l ((linedPart r levels).panelLink l) := by
  rw [Part.panelLink, (linedPart_replaced r levels).main]
  exact firstPolls_panelLink (unanswered_begunPart r) (fun _ => rfl) l (mem_panelLinks.2 place)

theorem linedPart_line (r : Retention) (levels : Set8) {n : Nat} (place : n < 8) :
    LineStarted (Table.get .defaults r.lines n) (inSet levels n) (inSet r.lineStatus n)
      (lineAndStatus (linedPart r levels) n) := by
  have sent := firstPolls_begunPart r
  have started := lined_started (begunPart r).firstPolls levels (by rw [sent.main]; rfl) n (mem_eight.2 place)
  rw [Part.lineConfig, sent.ret] at started
  exact started

/-- The start sequence sets latches, modes and notices on the part with its lines started. -/
theorem startSequence_spec (r : Retention) (levels : Set8) : ∃ latches modes,
    startSequence r levels = (((linedPart r levels).withLatches latches).withModes modes).withSendQueue
      (notices (startSequence r levels)) ∧
    ∀ g ∈ eight, inSet latches g = (inSet r.latches g || (startSequence r levels).holds g .recalled) ∧
      (startSequence r levels).mode g = (startSequence r levels).effectiveMode g := by
  obtain ⟨latches, latched, recalls⟩ := foldl_latch_spec (linedPart r levels)
  obtain ⟨modes, moded, effective⟩ := foldl_startMode_spec ((linedPart r levels).withLatches latches)
  have empty : (((linedPart r levels).withLatches latches).withModes modes).main.sendQueue = [] := by
    rw [withModes_main, withLatches_main, linedPart_main]
    rfl
  have kept : (linedPart r levels).ret.latches = r.latches := by rw [linedPart_ret]
  have phases : startSequence r levels = (((linedPart r levels).withLatches latches).withModes modes).withSendQueue
      (notices (((linedPart r levels).withLatches latches).withModes modes)) :=
    calc startSequence r levels
      _ = (eight.foldl Part.startMode (eight.foldl Part.latch (linedPart r levels))).noticeAll := rfl
      _ = _ := by rw [latched, moded, noticeAll_of_empty _ empty]
  rw [phases]
  refine ⟨latches, modes, rfl, fun g place => ⟨?_, effective g place⟩⟩
  rw [recalls g place, kept]
  rfl

theorem exec_startSequence_of_not_qualifying {s : State} (h : s.well ≠ .qualifying) (levels : Set8) :
    exec (.startSequence levels) s = .next s := by
  rw [exec_startSequence, execStartSequence]
  cases well : s.well with
  | off => rfl
  | qualifying => exact absurd well h
  | running m => rfl

end Sys2Proof.Laws

namespace Sys2Proof.Proofs

open Sys2Proof.Machine Sys2Proof.Safety Sys2Proof.Laws

/-- Settles O52: drops, links and lines are those of the part with its lines started, on which the start sequence then
sets latches, modes and notices. -/
theorem startSequence : Obligations.StartSequence := by
  refine ⟨fun s levels idle => exec_startSequence_of_not_qualifying idle levels, ?_⟩
  rintro s levels r qualifying powered
  obtain ⟨latches, modes, phases, groups⟩ := startSequence_spec r levels
  have taken := exec_startSequence_qualifying qualifying levels
  rw [Retention.powered, ← powered] at taken
  generalize Machine.startSequence r levels = q at taken phases groups
  have ret : q.ret = { (linedPart r levels).ret with latches := latches } := by rw [phases]; rfl
  have main : q.main = { (linedPart r levels).main with modes := modes, sendQueue := notices q } :=
    congrArg Part.main phases
  have line : ∀ n, lineAndStatus q n = lineAndStatus (linedPart r levels) n := fun n => by rw [phases]; rfl
  have link : ∀ l, q.panelLink l = (linedPart r levels).panelLink l := fun l => by rw [phases]; rfl
  refine ⟨q, taken, ?ret, ?main, fun n => ?drop, fun l place => ?polled, fun l place => ?unpolled,
    ?lines, fun g place => ?groups⟩
  case ret => rw [ret, linedPart_ret]; rfl
  case main => rw [main, linedPart_main]
  case drop => rw [← linedPart_drop r levels, phases]; rfl
  case polled => rw [link]; exact (linedPart_panelLink r levels place).1
  case unpolled => rw [link]; exact (linedPart_panelLink r levels place).2
  case lines =>
    rintro n place _ rfl _ rfl
    have started := linedPart_line r levels place
    rw [← line] at started
    exact started
  case groups =>
    rw [ret]
    exact groups g place

end Sys2Proof.Proofs
end

section
/-! SUPPORT. Tables read by key: a property of every entry of a sorted table is one of every lookup, and what an update does
to the number of entries that meet a test. -/

namespace Sys2Proof.Laws

open Sys2Proof.Machine Sys2Proof.Safety

variable {α : Type} {t : Table α}

/-! ## Entries and lookups -/

theorem mem_iff_lookup (sorted : Table.sorted t) {n : Nat} {v : α} : (n, v) ∈ t ↔ Table.lookup t n = some v :=
  ⟨lookup_of_mem sorted, mem_of_lookup⟩

theorem forall_mem_iff_lookup (sorted : Table.sorted t) {P : Nat × α → Prop} :
    (∀ e ∈ t, P e) ↔ ∀ n v, Table.lookup t n = some v → P (n, v) :=
  ⟨fun h _ _ found => h _ (mem_of_lookup found), fun h e mem => h e.1 e.2 (lookup_of_mem sorted mem)⟩

/-- In a table whose keys fit a width, every entry is read by a number of that width. -/
theorem forall_mem_iff_lookup_toNat (sorted : Table.sorted t) {w low high : Nat} (keys : keysWithin t low high)
    (fits : high < 2 ^ w) {P : Nat × α → Prop} :
    (∀ e ∈ t, P e) ↔ ∀ (x : BitVec w) v, Table.lookup t x.toNat = some v → P (x.toNat, v) := by
  refine ⟨fun h x v found => h _ (mem_of_lookup found), fun h e mem => ?_⟩
  have same : (BitVec.ofNat w e.1).toNat = e.1 :=
    BitVec.toNat_ofNat e.1 w ▸ Nat.mod_eq_of_lt (Nat.lt_of_le_of_lt (keys e mem).2 fits)
  have := h (BitVec.ofNat w e.1) e.2
  rw [same] at this
  exact this (lookup_of_mem sorted mem)

theorem lookup_eq_none_of_key {low high n : Nat} (keys : keysWithin t low high) (outside : ¬(low ≤ n ∧ n ≤ high)) :
    Table.lookup t n = none := by
  cases found : Table.lookup t n with
  | none => rfl
  | some v => exact absurd (keys _ (mem_of_lookup found)) outside

theorem key_of_lookup {low high n : Nat} {v : α} (keys : keysWithin t low high) (found : Table.lookup t n = some v) :
    low ≤ n ∧ n ≤ high := keys _ (mem_of_lookup found)

theorem keysWithin_set [DecidableEq α] {low high n : Nat} (keys : keysWithin t low high) (place : low ≤ n ∧ n ≤ high)
    (d v : α) : keysWithin (Table.set d t n v) low high := by
  unfold Table.set
  split
  · exact keysWithin_erase keys n
  · exact keysWithin_put keys place v

theorem keysWithin_assign {low high n : Nat} (keys : keysWithin t low high) (place : low ≤ n ∧ n ≤ high)
    (o : Option α) : keysWithin (Table.assign t n o) low high := by
  cases o with
  | none => exact keysWithin_erase keys n
  | some v => exact keysWithin_put keys place v

/-- A lookup with a default, in a table that lists no default, finds what is not the default. -/
theorem lookup_eq_some_of_get_ne {d : α} {n : Nat} (other : Table.get d t n ≠ d) :
    Table.lookup t n = some (Table.get d t n) := by
  unfold Table.get at *
  cases found : Table.lookup t n with
  | none => rw [found] at other; exact absurd rfl other
  | some v => rfl

theorem get_of_lookup {d : α} {n : Nat} {v : α} (found : Table.lookup t n = some v) : Table.get d t n = v := by
  rw [Table.get, found]; rfl

/-- Each entry of a canonical table is what a read with its default finds there, and is not the default. -/
theorem lookup_iff_get {d : α} (canonical : Table.canonical d t) {n : Nat} {v : α} :
    Table.lookup t n = some v ↔ Table.get d t n = v ∧ v ≠ d := by
  refine ⟨fun found => ⟨get_of_lookup found, canonical.2 _ (mem_of_lookup found)⟩, ?_⟩
  rintro ⟨rfl, other⟩
  exact lookup_eq_some_of_get_ne other

theorem forall_mem_iff_get {d : α} (canonical : Table.canonical d t) {P : Nat × α → Prop} :
    (∀ e ∈ t, P e) ↔ ∀ n, Table.get d t n ≠ d → P (n, Table.get d t n) := by
  rw [forall_mem_iff_lookup canonical.1]
  refine ⟨fun h n other => h n _ (lookup_eq_some_of_get_ne other), fun h n v found => ?_⟩
  obtain ⟨rfl, other⟩ := (lookup_iff_get canonical).1 found
  exact h n other

/-! ## Pairs of entries -/

/-- In a sorted table a symmetric relation holds pairwise when it holds of any two entries with different keys. -/
theorem pairwise_iff_of_sorted (sorted : Table.sorted t) {R : Nat × α → Nat × α → Prop}
    (symm : ∀ a b, R a b → R b a) : t.Pairwise R ↔ ∀ a ∈ t, ∀ b ∈ t, a.1 ≠ b.1 → R a b := by
  refine ⟨fun h => ?_, fun h => sorted.imp_of_mem fun ma mb lt => h _ ma _ mb (Nat.ne_of_lt lt)⟩
  induction t with
  | nil => nofun
  | cons e t ih =>
    obtain ⟨first, rest⟩ := List.pairwise_cons.1 h
    have later := ih (List.pairwise_cons.1 sorted).2 rest
    intro a ma b mb other
    rcases List.mem_cons.1 ma with hereA | afterA <;> rcases List.mem_cons.1 mb with hereB | afterB
    · exact absurd (hereA ▸ hereB ▸ rfl) other
    · exact hereA ▸ first b afterB
    · exact hereB ▸ symm _ _ (first a afterA)
    · exact later a afterA b afterB other

/-- A value written keeps a symmetric relation that it has to the entries of the other keys. -/
theorem pairwise_put (sorted : Table.sorted t) {R : Nat × α → Nat × α → Prop} (symm : ∀ a b, R a b → R b a)
    (h : t.Pairwise R) {n : Nat} {v : α} (new : ∀ e ∈ t, e.1 ≠ n → R e (n, v)) : (Table.put t n v).Pairwise R := by
  have before := (pairwise_iff_of_sorted sorted symm).1 h
  have entry : ∀ e ∈ Table.put t n v, e = (n, v) ∨ (e ∈ t ∧ e.1 ≠ n) := fun e mem => by
    by_cases same : e.1 = n
    · have found := lookup_of_mem (sorted_put sorted n v) mem
      rw [same, lookup_put_self] at found
      exact .inl (Prod.ext same (Option.some.inj found).symm)
    · exact .inr ⟨(mem_put mem).resolve_left fun here => same (congrArg Prod.fst here), same⟩
  refine (pairwise_iff_of_sorted (sorted_put sorted n v) symm).2 fun a ma b mb other => ?_
  rcases entry a ma with rfl | ⟨ma, na⟩
  · rcases entry b mb with rfl | ⟨mb, nb⟩
    · exact absurd rfl other
    · exact symm _ _ (new b mb nb)
  · rcases entry b mb with rfl | ⟨mb, nb⟩
    · exact new a ma na
    · exact before a ma b mb other

/-! ## How many entries meet a test -/

/-- One when a value meets a test, else zero. -/
def tally (b : Bool) : Nat := if b then 1 else 0

theorem countP_put (sorted : Table.sorted t) (test : α → Bool) (n : Nat) (v : α) :
    (Table.put t n v).countP (fun e => test e.2) + ((Table.lookup t n).elim 0 fun w => tally (test w)) =
      t.countP (fun e => test e.2) + tally (test v) := by
  induction t with
  | nil => simp [Table.put, tally]
  | cons e t ih =>
    obtain ⟨k, w⟩ := e
    obtain ⟨above, sorted⟩ := List.pairwise_cons.1 sorted
    unfold Table.put
    rw [lookup_cons]
    split
    next below =>
      have absent : Table.lookup t n = none := by
        cases found : Table.lookup t n with
        | none => rfl
        | some u => exact absurd (above _ (mem_of_lookup found)) (by simp only; omega)
      simp [List.countP_cons, tally, absent, Nat.ne_of_lt below]
    next =>
      split
      next => simp [List.countP_cons, tally]; omega
      next => 
        have := ih sorted
        simp only [List.countP_cons]
        omega

theorem countP_erase (sorted : Table.sorted t) (test : α → Bool) (n : Nat) :
    (Table.erase t n).countP (fun e => test e.2) + ((Table.lookup t n).elim 0 fun w => tally (test w)) =
      t.countP (fun e => test e.2) := by
  induction t with
  | nil => rfl
  | cons e t ih =>
    obtain ⟨k, w⟩ := e
    obtain ⟨above, sorted⟩ := List.pairwise_cons.1 sorted
    have rest := ih sorted
    by_cases same : n = k
    · subst same
      have kept : Table.erase ((n, w) :: t) n = t := by
        rw [Table.erase, List.filter_cons_of_neg (by simp)]
        exact List.filter_eq_self.2 fun e mem => decide_eq_true (Nat.ne_of_gt (above e mem))
      rw [kept, lookup_cons, if_pos rfl, List.countP_cons]
      rfl
    · have kept : Table.erase ((k, w) :: t) n = (k, w) :: Table.erase t n :=
        List.filter_cons_of_pos (decide_eq_true (Ne.symm same))
      rw [kept, lookup_cons, if_neg same, List.countP_cons, List.countP_cons]
      omega

/-- A value written over another leaves the table as long as it was. -/
theorem length_put_of_lookup (sorted : Table.sorted t) {n : Nat} {w : α} (found : Table.lookup t n = some w) (v : α) :
    (Table.put t n v).length = t.length := by
  have counted := countP_put sorted (fun _ => true) n v
  simpa [found, tally] using counted

end Sys2Proof.Laws
end

section
/-! SUPPORT. The laws of a part whose main well runs, and the updates that no law reads. -/

namespace Sys2Proof.Laws

open Sys2Proof.Machine Sys2Proof.Safety

/-- The laws of the part while its main well runs: those of the two wells, and the retention well intact. -/
structure Lawful (p : Part) : Prop where
  ret : RetentionLaws p.ret
  main : MainLaws p.ret p.main
  intact : p.ret.intact = true

theorem inv_running_iff {s : State} {m : Main} (running : s.well = .running m) : Inv s ↔ Lawful (partOf s m) := by
  rw [Safety.Inv, running]
  exact ⟨fun ⟨ret, main, intact⟩ => ⟨ret, main, intact⟩, fun h => ⟨h.ret, h.main, h.intact⟩⟩

theorem inv_withPart_iff (s : State) (p : Part) : Inv (s.withPart p) ↔ Lawful p := inv_running_iff rfl

variable {p : Part}

/-! ## Updates that no law reads -/

theorem Lawful.hunt (h : Lawful p) (w : Wire) : Lawful (p.hunt w) := ⟨h.ret, { h.main with }, h.intact⟩
theorem Lawful.beginFrame (h : Lawful p) (w : Wire) : Lawful (p.beginFrame w) := ⟨h.ret, { h.main with }, h.intact⟩
theorem Lawful.markLate (h : Lawful p) (l : Nat) (b : Bool) : Lawful (p.markLate l b) :=
  ⟨h.ret, { h.main with }, h.intact⟩
theorem Lawful.withEnables (h : Lawful p) (e : Half) : Lawful (p.withEnables e) := ⟨h.ret, { h.main with }, h.intact⟩
theorem Lawful.raisePanelDown (h : Lawful p) : Lawful p.raisePanelDown := ⟨h.ret, { h.main with }, h.intact⟩
theorem Lawful.raisePurgeDone (h : Lawful p) : Lawful p.raisePurgeDone := ⟨h.ret, { h.main with }, h.intact⟩
theorem Lawful.raiseSweepDone (h : Lawful p) : Lawful p.raiseSweepDone := ⟨h.ret, { h.main with }, h.intact⟩
theorem Lawful.raisePoolFull (h : Lawful p) : Lawful p.raisePoolFull := ⟨h.ret, { h.main with }, h.intact⟩
theorem Lawful.clearSticky (h : Lawful p) (set : Half) : Lawful (p.clearSticky set) :=
  ⟨{ h.ret with }, { h.main with }, h.intact⟩

/-! ## Updates that the limits alone read -/

theorem Lawful.reply (h : Lawful p) (r : Reply) : Lawful (p.reply r) := by
  obtain ⟨arbiter, calls, queue, tickets, counted, -, -⟩ := h.main.limits
  exact ⟨h.ret, { h.main with limits := ⟨arbiter, calls, queue, tickets, counted, nofun, nofun⟩ }, h.intact⟩

theorem Lawful.withSendQueue (h : Lawful p) {l : List DispatcherFrame} (fits : l.length ≤ Config.sendQueue) :
    Lawful (p.withSendQueue l) := by
  obtain ⟨arbiter, calls, -, rest⟩ := h.main.limits
  exact ⟨h.ret, { h.main with limits := ⟨arbiter, calls, fits, rest⟩ }, h.intact⟩

theorem Lawful.overrunBy (h : Lawful p) {r : Reply} (replying : p.main.mgmt = .replying r) (tag : Byte) :
    Lawful (p.overrunBy tag) := by
  obtain ⟨arbiter, calls, queue, tickets, counted, -, opened⟩ := h.main.limits
  have count : 1 ≤ (Overrun.count1 tag p.main.overrun).count ∧ (Overrun.count1 tag p.main.overrun).count ≤ 255 := by
    unfold Overrun.count1
    split
    · simp
    · simp only; omega
  refine ⟨h.ret, { h.main with limits := ⟨arbiter, calls, queue, tickets, ?_, fun _ => ?_, opened⟩ }, h.intact⟩
  · intro o mem
    obtain rfl : Overrun.count1 tag p.main.overrun = o := Option.some.inj mem
    exact count
  · exact replying ▸ nofun

/-- The end of a reply empties the overrun record, and the link is READY or sends the OVERRUN reply (R184, R185). -/
theorem Lawful.nextReply (h : Lawful p) : Lawful p.nextReply := by
  obtain ⟨arbiter, calls, queue, tickets, -, -, -⟩ := h.main.limits
  unfold Part.nextReply
  cases empty : p.main.overrun with
  | none =>
    refine ⟨h.ret, { h.main with limits := ⟨arbiter, calls, queue, tickets, ?_, ?_, nofun⟩ }, h.intact⟩
    · exact fun o mem => by rw [withMgmt_main, empty] at mem; cases mem
    · exact fun full => absurd empty full
  | some o =>
    exact ⟨h.ret, { h.main with limits := ⟨arbiter, calls, queue, tickets, nofun, nofun, nofun⟩ }, h.intact⟩

/-! ## Frames on the management link -/

/-- A management command keeps the laws when its block keeps them. -/
theorem Lawful.takeCommand {α : Type} {act : α → Part → Taken} (keeps : ∀ f q, Lawful q → Lawful (act f q).part)
    (h : Lawful p) (kind tag : Byte) (body : Body α) : Lawful (p.takeCommand kind tag body act) := by
  unfold Part.takeCommand
  dsimp only
  cases link : (p.hunt .management).main.mgmt with
  | closed => exact h.hunt _
  | replying r => exact (h.hunt _).overrunBy link tag
  | ready =>
    cases body with
    | malformed => exact (h.hunt _).reply _
    | read f => exact (keeps f _ (h.hunt _)).reply _

theorem Lawful.takeUnknown (h : Lawful p) (kind tag : Byte) : Lawful (p.takeUnknown kind tag) := by
  unfold Part.takeUnknown
  dsimp only
  cases link : (p.hunt .management).main.mgmt with
  | closed => exact h.hunt _
  | replying r => exact (h.hunt _).overrunBy link tag
  | ready => exact (h.hunt _).reply _

theorem Lawful.duringReply (h : Lawful p) (tag : Byte) : Lawful (p.duringReply tag) := by
  unfold Part.duringReply
  dsimp only
  cases link : (p.hunt .management).main.mgmt with
  | closed => exact h.hunt _
  | replying r => exact (h.hunt _).overrunBy link tag
  | ready => exact h.hunt _

/-! ## The send queue -/

theorem Lawful.send (h : Lawful p) (f : DispatcherFrame) : Lawful (p.send f) := by
  obtain ⟨-, -, queue, -⟩ := h.main.limits
  have fits := send_within p f queue
  rw [send_spec] at fits ⊢
  exact h.withSendQueue fits

theorem Lawful.notice (h : Lawful p) (g : Nat) : Lawful (p.notice g) := h.send _

theorem Lawful.noticeAll (h : Lawful p) : Lawful p.noticeAll :=
  List.foldlRecOn eight _ (motive := Lawful) h fun q kept g _ => by
    split
    · exact kept.notice g
    · exact kept

end Sys2Proof.Laws
end

section
/-! SUPPORT. The laws of the records and the tenants, read by badge and by tenant, and one lemma for every way in which a
record is written or taken out. -/

namespace Sys2Proof.Laws

open Sys2Proof.Machine Sys2Proof.Safety

variable {r : Retention} {p : Part}

/-! ## The form of the two tables -/

theorem badge_lt (b : Badge) : b.toNat < 2 ^ 40 := b.isLt

/-- A badge that may be a key lies in the range of the keys. -/
theorem badgeKey_iff (b : Badge) : badgeKey b = true ↔ 1 ≤ b.toNat ∧ b.toNat ≤ 2 ^ 40 - 2 := by
  have := b.isLt
  simp only [badgeKey, Bool.and_eq_true, decide_eq_true_eq, ne_eq, BitVec.toNat_eq, BitVec.toNat_allOnes,
    BitVec.ofNat_eq_ofNat, BitVec.toNat_ofNat]
  omega

theorem badge_ofNat {n : Nat} (key : n ≤ 2 ^ 40 - 2) : (BitVec.ofNat 40 n : Badge).toNat = n := by
  rw [BitVec.toNat_ofNat, Nat.mod_eq_of_lt (by omega)]

theorem byte_toNat {n : Nat} (fits : n < 256) : (byte n).toNat = n := by
  rw [byte, BitVec.toNat_ofNat, Nat.mod_eq_of_lt (by omega)]

@[simp] theorem byte_of_toNat (b : Byte) : byte b.toNat = b := by simp [byte]

/-- The records are sorted by badge, and each key is one. -/
abbrev CredsForm (t : Table Cred) : Prop := Table.sorted t ∧ keysWithin t 1 (2 ^ 40 - 2)

/-- The tenants are sorted, and each key is one. -/
abbrev TenantsForm (t : Table Tenant) : Prop := Table.sorted t ∧ keysWithin t 1 255

theorem forall_creds_iff {t : Table Cred} (form : CredsForm t) {P : Nat × Cred → Prop} :
    (∀ e ∈ t, P e) ↔ ∀ (b : Badge) c, Table.lookup t b.toNat = some c → P (b.toNat, c) :=
  forall_mem_iff_lookup_toNat form.1 form.2 (by decide)

theorem forall_tenants_iff {t : Table Tenant} (form : TenantsForm t) {P : Nat × Tenant → Prop} :
    (∀ e ∈ t, P e) ↔ ∀ (x : Byte) v, Table.lookup t x.toNat = some v → P (x.toNat, v) :=
  forall_mem_iff_lookup_toNat form.1 form.2 (by decide)

theorem tenantAt_zero (form : TenantsForm r.tenants) : tenantAt r 0 = none :=
  lookup_eq_none_of_key form.2 (by decide)

/-! ## The laws by badge and by tenant -/

/-- What every record meets by itself. -/
structure CredSound (c : Cred) : Prop where
  count : c.grants.length ≤ Config.personalGrants
  grants : c.grants.all grantOk = true
  inStep : credInStep c

/-- The law of the tenants' counts, read by badge and by tenant. -/
structure CountedAt (r : Retention) : Prop where
  present : ∀ b c, credAt r b = some c → c.tenant = 0 ∨ (tenantAt r c.tenant).isSome = true
  counts : ∀ t v, tenantAt r t = some v → v.count = recordsNaming r t
  purging : ∀ t v, tenantAt r t = some v → v.state = .purging → r.purge.running = true ∧ r.purge.tenant = t
  walker : r.purge.running = true → tenantState r r.purge.tenant = some .purging
  passed : r.purge.running = true → ∀ b c, credAt r b = some c → b.toNat ≤ r.purge.position → c.tenant ≠ r.purge.tenant

theorem tenantsCounted_iff (creds : CredsForm r.creds) (tenants : TenantsForm r.tenants) :
    TenantsCounted r ↔ CountedAt r := by
  simp only [TenantsCounted, forall_creds_iff creds, forall_tenants_iff tenants, byte_of_toNat]
  exact ⟨fun ⟨present, counts, purging, walks⟩ =>
      ⟨present, counts, purging, fun h => (walks h).1, fun h => (walks h).2⟩,
    fun h => ⟨h.present, h.counts, h.purging, fun on => ⟨h.walker on, h.passed on⟩⟩⟩

/-- The laws of the stores of records and tenants, read by badge and by tenant. -/
structure StoresLawful (r : Retention) : Prop where
  creds : CredsForm r.creds
  tenants : TenantsForm r.tenants
  room : r.creds.length ≤ Config.credentials
  records : ∀ b c, credAt r b = some c → CredSound c
  floors : ∀ t v, tenantAt r t = some v → grantListOk v.grants = true
  counted : CountedAt r

theorem storesLawful_of_retentionLaws (h : RetentionLaws r) : StoresLawful r := by
  obtain ⟨creds, tenants, -⟩ := h.tables
  obtain ⟨room, records, floors, -⟩ := h.limits
  have inStep := h.inStep
  rw [CredentialsInStep, forall_creds_iff creds] at inStep
  rw [forall_creds_iff creds] at records
  rw [forall_tenants_iff tenants] at floors
  exact ⟨creds, tenants, room, fun b c found => ⟨(records b c found).1, (records b c found).2, inStep b c found⟩, floors,
    (tenantsCounted_iff creds tenants).1 h.counted⟩

theorem Lawful.stores (h : Lawful p) : StoresLawful p.ret := storesLawful_of_retentionLaws h.ret

/-- Lawful stores beside the rest of a lawful retention well. -/
theorem retentionLaws_withStores (h : RetentionLaws r) {cs : Table Cred} {ts : Table Tenant} {w : PurgeWalker}
    (stores : StoresLawful { r with creds := cs, tenants := ts, purge := w }) :
    RetentionLaws { r with creds := cs, tenants := ts, purge := w } := by
  obtain ⟨-, -, tables⟩ := h.tables
  obtain ⟨-, -, -, limits⟩ := h.limits
  refine ⟨⟨stores.creds, stores.tenants, tables⟩, ⟨stores.room, ?_, ?_, limits⟩, ?_,
    (tenantsCounted_iff stores.creds stores.tenants).2 stores.counted, h.map⟩
  · exact (forall_creds_iff stores.creds).2 fun b c found =>
      ⟨(stores.records b c found).count, (stores.records b c found).grants⟩
  · exact (forall_tenants_iff stores.tenants).2 stores.floors
  · exact (forall_creds_iff stores.creds).2 fun b c found => (stores.records b c found).inStep

/-! ## A record written or taken out -/

/-- One when an optional record names a tenant, else zero. -/
def named (o : Option Cred) (t : Byte) : Nat := o.elim 0 fun c => tally (decide (c.tenant = t))

theorem recordsNaming_eq_countP (r : Retention) (t : Byte) :
    recordsNaming r t = r.creds.countP fun e => decide (e.2.tenant = t) := List.countP_eq_length_filter.symm

theorem recordsNaming_assign (sorted : Table.sorted r.creds) (b : Badge) (o : Option Cred) (t : Byte) :
    ((Table.assign r.creds b.toNat o).countP fun e => decide (e.2.tenant = t)) + named (credAt r b) t =
      recordsNaming r t + named o t := by
  rw [recordsNaming_eq_countP]
  cases o with
  | none => exact countP_erase sorted (fun c => decide (c.tenant = t)) b.toNat
  | some c => exact countP_put sorted (fun c => decide (c.tenant = t)) b.toNat c

theorem credAt_assign (b d : Badge) (o : Option Cred) :
    Table.lookup (Table.assign r.creds b.toNat o) d.toNat = if d = b then o else credAt r d := by
  rw [lookup_assign]
  exact if_congr BitVec.toNat_inj rfl rfl

/-- What a write of a record may bring: a sound record, of tenant 0 or a present tenant, that the purge walker has not
passed over. -/
structure Admissible (r : Retention) (b : Badge) (c : Cred) : Prop where
  sound : CredSound c
  present : c.tenant = 0 ∨ (tenantAt r c.tenant).isSome = true
  passed : r.purge.running = true → b.toNat ≤ r.purge.position → c.tenant ≠ r.purge.tenant

/-- Every tenant's count has followed a record written or taken out: lowered where the old record names the tenant,
raised where the new one does (R8). -/
def Recounted (r : Retention) (ts : Table Tenant) (old new : Option Cred) : Prop :=
  TenantsForm ts ∧ ∀ t : Byte, t ≠ 0 → Table.lookup ts t.toNat = (tenantAt r t).map fun v =>
    { v with count := v.count + named new t - named old t }

theorem Recounted.lookup {ts : Table Tenant} {old new : Option Cred} (form : TenantsForm r.tenants)
    (h : Recounted r ts old new) (t : Byte) : Table.lookup ts t.toNat = (tenantAt r t).map fun v =>
      { v with count := v.count + named new t - named old t } := by
  by_cases zero : t = 0
  · subst zero
    rw [tenantAt_zero form]
    exact lookup_eq_none_of_key h.1.2 (by decide)
  · exact h.2 t zero

theorem Recounted.tenantState {ts : Table Tenant} {old new : Option Cred} (form : TenantsForm r.tenants)
    (h : Recounted r ts old new) (t : Byte) : (Table.lookup ts t.toNat).map Tenant.state = Safety.tenantState r t := by
  rw [h.lookup form, Option.map_map]
  rfl

theorem StoresLawful.assign (h : StoresLawful r) {b : Badge} (key : badgeKey b = true) {o : Option Cred}
    {ts : Table Tenant} (recounted : Recounted r ts (credAt r b) o)
    (room : (Table.assign r.creds b.toNat o).length ≤ Config.credentials) (admissible : ∀ c ∈ o, Admissible r b c) :
    StoresLawful { r with creds := Table.assign r.creds b.toNat o, tenants := ts } := by
  have place := (badgeKey_iff b).1 key
  have lookup := recounted.lookup h.tenants
  have record : ∀ d c, (if d = b then o else credAt r d) = some c →
      CredSound c ∧ (c.tenant = 0 ∨ (tenantAt r c.tenant).isSome = true) ∧
        (r.purge.running = true → d.toNat ≤ r.purge.position → c.tenant ≠ r.purge.tenant) := by
    intro d c found
    split at found
    next same =>
      subst same
      obtain ⟨sound, present, passed⟩ := admissible c found
      exact ⟨sound, present, passed⟩
    next => exact ⟨h.records d c found, h.counted.present d c found, fun on => h.counted.passed on d c found⟩
  have tenant : ∀ t v, Table.lookup ts t.toNat = some v → ∃ w, tenantAt r t = some w ∧
      v = { w with count := w.count + named o t - named (credAt r b) t } := fun t v found => by
    rw [lookup t] at found
    obtain ⟨w, was, now⟩ := Option.map_eq_some_iff.1 found
    exact ⟨w, was, now.symm⟩
  refine ⟨⟨sorted_assign h.creds.1 _ _, keysWithin_assign h.creds.2 place _⟩, recounted.1, room, fun d c found => ?_,
    fun t v found => ?_, fun d c found => ?_, fun t v found => ?_, fun t v found purging => ?_, fun on => ?_,
    fun on d c found => ?_⟩
  · exact (record d c (credAt_assign b d o ▸ found)).1
  · obtain ⟨w, was, rfl⟩ := tenant t v found
    exact h.floors t w was
  · refine (record d c (credAt_assign b d o ▸ found)).2.1.imp id fun present => ?_
    rw [tenantAt, lookup, Option.isSome_map]
    exact present
  · obtain ⟨w, was, rfl⟩ := tenant t v found
    have counted := recordsNaming_assign h.creds.1 b o t
    have before := h.counted.counts t w was
    rw [recordsNaming_eq_countP]
    simp only
    omega
  · obtain ⟨w, was, rfl⟩ := tenant t v found
    exact h.counted.purging t w was purging
  · exact (recounted.tenantState h.tenants _).trans (h.counted.walker on)
  · exact (record d c (credAt_assign b d o ▸ found)).2.2 on

/-- A record rewritten within its tenant: no count changes. -/
theorem recounted_same (form : TenantsForm r.tenants) {b : Badge} {c c' : Cred} (found : credAt r b = some c)
    (tenant : c'.tenant = c.tenant) : Recounted r r.tenants (credAt r b) (some c') := by
  refine ⟨form, fun t _ => ?_⟩
  rw [found]
  simp only [named, Option.elim_some, tenant, Nat.add_sub_cancel]
  exact (Option.map_id_apply ..).symm

/-- A record rewritten within its tenant, with its grants kept, keeps the laws of the stores. -/
theorem StoresLawful.rewrite (h : StoresLawful r) {b : Badge} {c c' : Cred} (found : credAt r b = some c)
    (tenant : c'.tenant = c.tenant) (sound : CredSound c') :
    StoresLawful { r with creds := Table.put r.creds b.toNat c' } := by
  have key := (badgeKey_iff b).2 (key_of_lookup h.creds.2 found)
  refine h.assign key (o := some c') (recounted_same h.tenants found tenant) ?_ ?_
  · exact (length_put_of_lookup h.creds.1 found c').trans_le h.room
  · rintro _ ⟨⟩
    exact ⟨sound, tenant ▸ h.counted.present b c found, fun on below => tenant ▸ h.counted.passed on b c found below⟩

end Sys2Proof.Laws
end

section
/-! SUPPORT. The commands on records (chapter 1): what the counting requests do to every tenant, and that a record written
or taken out with its tickets keeps the laws. -/

namespace Sys2Proof.Laws

open Sys2Proof.Machine Sys2Proof.Safety

/-! ## The counting requests (R8, R29) -/

section
variable (p : Part) (t x : Byte)

theorem tenant_modTenant (f : Tenant → Tenant) :
    (p.modTenant t f).tenant x = if x = t then (p.tenant x).map f else p.tenant x := by
  split
  next same => rw [same]; exact (modTenant_spec p t f).2.2
  next other => exact modTenant_tenant_ne p other f

theorem tenantsForm_modTenant (form : TenantsForm p.ret.tenants) (f : Tenant → Tenant) :
    TenantsForm (p.modTenant t f).ret.tenants := by
  unfold Part.modTenant
  cases found : p.tenant t with
  | none => exact form
  | some v => exact ⟨sorted_put form.1 _ _, keysWithin_put form.2 (key_of_lookup form.2 found) _⟩

theorem tenant_countUp : (p.countUp t).tenant x = (p.tenant x).map fun v =>
    { v with count := v.count + if x = t ∧ x ≠ 0 then 1 else 0 } := by
  unfold Part.countUp
  split
  next zero =>
    rw [if_neg fun h => h.2 (h.1.trans zero)]
    exact (Option.map_id_apply ..).symm
  next nonzero =>
    rw [tenant_modTenant]
    split
    next same => simp only [same, ne_eq, nonzero, not_false_eq_true, and_self, if_true]
    next other =>
      simp only [other, false_and, if_false]
      exact (Option.map_id_apply ..).symm

theorem tenant_countDown : (p.countDown t).tenant x = (p.tenant x).map fun v =>
    { v with count := v.count - if x = t ∧ x ≠ 0 then 1 else 0 } := by
  unfold Part.countDown
  split
  next zero =>
    rw [if_neg fun h => h.2 (h.1.trans zero)]
    exact (Option.map_id_apply ..).symm
  next nonzero =>
    rw [tenant_modTenant]
    split
    next same => simp only [same, ne_eq, nonzero, not_false_eq_true, and_self, if_true]
    next other =>
      simp only [other, false_and, if_false]
      exact (Option.map_id_apply ..).symm

theorem tenantsForm_countUp (form : TenantsForm p.ret.tenants) : TenantsForm (p.countUp t).ret.tenants := by
  unfold Part.countUp
  split
  · exact form
  · exact tenantsForm_modTenant p t form _

theorem tenantsForm_countDown (form : TenantsForm p.ret.tenants) : TenantsForm (p.countDown t).ret.tenants := by
  unfold Part.countDown
  split
  · exact form
  · exact tenantsForm_modTenant p t form _

variable (old new : Byte)

theorem moveTenant_frame : (p.moveTenant old new).main = p.main ∧
    (p.moveTenant old new).ret = { p.ret with tenants := (p.moveTenant old new).ret.tenants } := by
  unfold Part.moveTenant
  split
  · exact ⟨rfl, rfl⟩
  · obtain ⟨main, ret⟩ := countUp_frame (p.countDown old) new
    rw [main, ret, (countDown_frame p old).1, (countDown_frame p old).2]
    exact ⟨rfl, rfl⟩

theorem tenantsForm_moveTenant (form : TenantsForm p.ret.tenants) : TenantsForm (p.moveTenant old new).ret.tenants := by
  unfold Part.moveTenant
  split
  · exact form
  · exact tenantsForm_countUp _ new (tenantsForm_countDown p old form)

theorem tenant_moveTenant : (p.moveTenant old new).tenant x = (p.tenant x).map fun v => { v with count :=
    if old = new ∨ x = 0 then v.count else if x = old then v.count - 1 else if x = new then v.count + 1
    else v.count } := by
  unfold Part.moveTenant
  split
  next same =>
    simp only [same, true_or, if_true]
    exact (Option.map_id_apply ..).symm
  next other =>
    rw [tenant_countUp, tenant_countDown, Option.map_map]
    refine congrArg (Option.map · _) (funext fun v => ?_)
    simp only [Function.comp, other, false_or]
    by_cases zero : x = 0
    · simp [zero]
    · simp only [zero, ne_eq, not_false_eq_true, and_true, if_false]
      by_cases leaves : x = old
      · simp [leaves, other]
      · simp only [leaves, if_false, Nat.sub_zero]
        split <;> rfl

end

variable {r : Retention} {p : Part}

theorem named_none (t : Byte) : named none t = 0 := rfl

theorem named_some (c : Cred) (t : Byte) : named (some c) t = if c.tenant = t then 1 else 0 := by
  simp [named, tally]

theorem recounted_countUp (form : TenantsForm p.ret.tenants) (c : Cred) :
    Recounted p.ret (p.countUp c.tenant).ret.tenants none (some c) := by
  refine ⟨tenantsForm_countUp p _ form, fun t nonzero => (tenant_countUp p c.tenant t).trans ?_⟩
  simp only [named_none, named_some, nonzero, ne_eq, not_false_eq_true, and_true, Nat.sub_zero, eq_comm (a := t)]
  rfl

theorem recounted_countDown (form : TenantsForm p.ret.tenants) (c : Cred) :
    Recounted p.ret (p.countDown c.tenant).ret.tenants (some c) none := by
  refine ⟨tenantsForm_countDown p _ form, fun t nonzero => (tenant_countDown p c.tenant t).trans ?_⟩
  simp only [named_none, named_some, nonzero, ne_eq, not_false_eq_true, and_true, Nat.add_zero, eq_comm (a := t)]
  rfl

theorem recounted_moveTenant (form : TenantsForm p.ret.tenants) (old new : Cred) :
    Recounted p.ret (p.moveTenant old.tenant new.tenant).ret.tenants (some old) (some new) := by
  refine ⟨tenantsForm_moveTenant p _ _ form, fun t nonzero => (tenant_moveTenant p t _ _).trans ?_⟩
  refine congrArg (Option.map · _) (funext fun v => ?_)
  simp only [named_some, nonzero, or_false, Tenant.mk.injEq, true_and]
  by_cases same : old.tenant = new.tenant
  · simp [same]
  · by_cases leaves : t = old.tenant
    · simp [leaves, same, Ne.symm same]
    · by_cases joins : t = new.tenant
      · simp [joins, same, Ne.symm same]
      · simp [Ne.symm leaves, Ne.symm joins, same, leaves, joins]

/-! ## The laws of the main well that read records and tenants -/

/-- A call in flight names a badge with a trip to charge. -/
def chargesTrip (m : Main) (b : Badge) : Bool := m.calls.any fun e => e.2.charge && decide (e.2.badge = some b)

theorem tripsReserved_iff {m : Main} (form : CredsForm r.creds) : TripsReserved r m ↔
    (∀ b c, credAt r b = some c → c.reserved = chargesTrip m b) ∧ ∀ e ∈ m.calls, e.2.charge = true → e.2.badge ≠ none := by
  have names : ∀ (o : Option Badge) (b : Badge), o.map BitVec.toNat = some b.toNat ↔ o = some b := fun o b => by
    cases o <;> simp [BitVec.toNat_inj]
  simp only [TripsReserved, forall_creds_iff form, names, chargesTrip]

theorem overlaysApart_of_states {r' : Retention} {m : Main} (h : OverlaysApart r m)
    (states : ∀ t, tenantState r' t = tenantState r t) : OverlaysApart r' m :=
  ⟨h.1, fun e mem => ⟨(h.2 e mem).1, by
    obtain ⟨state, found, free⟩ := (h.2 e mem).2
    exact ⟨state, (states e.2.tenant).trans found, free⟩⟩⟩

/-- Tickets taken out of the pool, while the records and tenants that entitle those that stay go on doing so. -/
theorem ticketsEntitled_sublist {r' : Retention} {m m' : Main} (h : TicketsEntitled r m)
    (calls : m'.calls = m.calls) (sub : m'.tickets.Sublist m.tickets)
    (entitled : ∀ t ∈ m'.tickets, ∀ c, credAt r t.badge = some c → entitles r c →
      ∃ c' ∈ credAt r' t.badge, entitles r' c') : TicketsEntitled r' m' := by
  refine ⟨fun t mem => ?_, h.2.sublist sub⟩
  obtain ⟨⟨c, found, entitles⟩, answered⟩ := h.1 t (sub.subset mem)
  refine ⟨entitled t mem c found entitles, ?_⟩
  rw [linkAnswered, calls]
  exact answered

/-- The tenants' states decide which of the records that do not change entitle. -/
theorem entitles_of_states {r' : Retention} {c : Cred} (states : ∀ t, tenantState r' t = tenantState r t)
    (h : entitles r c) : entitles r' c := ⟨h.1, h.2.imp_right fun live => (states c.tenant).trans live⟩

/-- A record written or taken out keeps the laws when its place in the counts follows it, its reservation is that of the
calls in flight, and its badge keeps tickets only where it entitles to them. -/
theorem Lawful.assignCred (h : Lawful p) {q : Part} {b : Badge} (key : badgeKey b = true) {o : Option Cred}
    (ret : q.ret = { p.ret with creds := Table.assign p.ret.creds b.toNat o, tenants := q.ret.tenants })
    (main : q.main = { p.main with tickets := q.main.tickets })
    (recounted : Recounted p.ret q.ret.tenants (credAt p.ret b) o)
    (room : (Table.assign p.ret.creds b.toNat o).length ≤ Config.credentials)
    (admissible : ∀ c ∈ o, Admissible p.ret b c) (reserved : ∀ c ∈ o, c.reserved = chargesTrip p.main b)
    (sub : q.main.tickets.Sublist p.main.tickets)
    (entitled : ∀ t ∈ q.main.tickets, t.badge = b → ∃ c ∈ o, entitles p.ret c) : Lawful q := by
  obtain ⟨r, m⟩ := q
  dsimp only at ret main recounted sub entitled
  generalize r.tenants = ts at *
  generalize m.tickets = tickets at *
  subst ret main
  have stores := h.stores
  have states := recounted.tenantState stores.tenants
  obtain ⟨trips, charged⟩ := (tripsReserved_iff stores.creds).1 h.main.trips
  have after := stores.assign key recounted room admissible
  obtain ⟨arbiter, calls, queue, pool, limits⟩ := h.main.limits
  refine ⟨retentionLaws_withStores h.ret after, { h.main with
    limits := ⟨arbiter, calls, queue, sub.length_le.trans pool, limits⟩
    overlays := overlaysApart_of_states h.main.overlays states
    trips := (tripsReserved_iff after.creds).2 ⟨fun d c found => ?_, charged⟩
    tickets := ticketsEntitled_sublist h.main.tickets rfl sub fun t mem c found allowed => ?_
    recalled := ⟨h.main.recalled.1, fun t mem => h.main.recalled.2 t (sub.subset mem)⟩ }, h.intact⟩
  · rw [credAt, credAt_assign] at found
    split at found
    next same => rw [same]; exact reserved c found
    next => exact trips d c found
  · rw [credAt, credAt_assign]
    split
    next same =>
      obtain ⟨c', mem', allowed'⟩ := entitled t mem same
      exact ⟨c', mem', entitles_of_states states allowed'⟩
    next => exact ⟨c, found, entitles_of_states states allowed⟩

/-! ## The commands -/

/-- A write of a record over another. -/
theorem Lawful.rewriteCred (h : Lawful p) {q : Part} {b : Badge} {c c' : Cred} (found : p.cred b = some c)
    (ret : q.ret = { p.ret with creds := Table.put p.ret.creds b.toNat c' })
    (main : q.main = { p.main with tickets := q.main.tickets }) (tenant : c'.tenant = c.tenant)
    (sound : CredSound c') (reserved : c'.reserved = c.reserved) (sub : q.main.tickets.Sublist p.main.tickets)
    (entitled : ∀ t ∈ q.main.tickets, t.badge = b → c.state ≠ .suspended → c'.state ≠ .suspended) : Lawful q := by
  have stores := h.stores
  have tenants : q.ret.tenants = p.ret.tenants := by rw [ret]
  obtain ⟨trips, -⟩ := (tripsReserved_iff stores.creds).1 h.main.trips
  refine h.assignCred (o := some c') ((badgeKey_iff b).2 (key_of_lookup stores.creds.2 found)) ?_ main ?_ ?_ ?_ ?_ sub
    fun t mem same => ?_
  · rw [tenants]; exact ret
  · rw [tenants]; exact recounted_same stores.tenants found tenant
  · exact (length_put_of_lookup stores.creds.1 found c').trans_le stores.room
  · rintro _ ⟨⟩
    exact ⟨sound, tenant ▸ stores.counted.present b c found, fun on below =>
      tenant ▸ stores.counted.passed on b c found below⟩
  · rintro _ ⟨⟩
    exact reserved.trans (trips b c found)
  · obtain ⟨⟨c₀, found₀, active, live⟩, -⟩ := h.main.tickets.1 t (sub.subset mem)
    obtain rfl : c₀ = c := Option.some.inj (found₀.symm.trans (same ▸ found))
    exact ⟨c', rfl, entitled t mem same active, tenant ▸ live⟩

theorem CredSound.withState {c : Cred} (h : CredSound c) {state : CredState}
    (active : c.quota = some 0 → state ≠ .active) (exhausted : state = .exhausted → c.quota = some 0) :
    CredSound { c with state := state } := ⟨h.count, h.grants, active, exhausted, h.inStep.2.2⟩

theorem enrolledState_ne_suspended (quota : Option Byte) : enrolledState quota ≠ .suspended := by
  unfold enrolledState; split <;> decide

theorem enrolledState_inStep (quota : Option Byte) :
    (quota = some 0 → enrolledState quota ≠ .active) ∧ (enrolledState quota = .exhausted → quota = some 0) := by
  unfold enrolledState
  split
  next zero => exact ⟨fun _ => nofun, fun _ => zero⟩
  next other => exact ⟨fun zero => absurd zero other, nofun⟩

/-- The derived state is SUSPENDED where the old one is, and else that of a new record. -/
theorem deriveState_eq (old : CredState) (quota : Option Byte) :
    deriveState old quota = if old = .suspended then .suspended else enrolledState quota := rfl

theorem deriveState_inStep (old : CredState) (quota : Option Byte) :
    (quota = some 0 → deriveState old quota ≠ .active) ∧ (deriveState old quota = .exhausted → quota = some 0) := by
  rw [deriveState_eq]
  split
  · exact ⟨fun _ => nofun, nofun⟩
  · exact enrolledState_inStep quota

theorem deriveState_suspended (old : CredState) (quota : Option Byte) :
    deriveState old quota = .suspended ↔ old = .suspended := by
  rw [deriveState_eq]
  split
  next h => simp [h]
  next h => simp [h, enrolledState_ne_suspended]

theorem filter_badge_sublist (l : List Ticket) (test : Ticket → Bool) : (l.filter test).Sublist l := List.filter_sublist

theorem not_badge_of_mem_removed {l : List Ticket} {b : Badge} {t : Ticket}
    (mem : t ∈ l.filter fun t => !decide (t.badge = b)) : t.badge ≠ b := by
  simpa using (List.mem_filter.1 mem).2

/-- A command on a record keeps the laws when its work on a present record keeps them. -/
theorem Lawful.onCred (h : Lawful p) {b : Badge} {act : Cred → Taken}
    (keeps : ∀ c, badgeKey b = true → p.cred b = some c → Lawful (act c).part) : Lawful (onCred b p act).part := by
  unfold Machine.onCred
  cases key : badgeKey b with
  | false => exact h
  | true =>
    cases found : p.cred b with
    | none => exact h
    | some c => exact keeps c key found

theorem Lawful.takeCredSuspend (h : Lawful p) (b : Badge) : Lawful (takeCredSuspend b p).part :=
  h.onCred fun c _ found => h.rewriteCred found rfl rfl rfl
    ((h.stores.records b c found).withState (fun _ => nofun) nofun) rfl List.filter_sublist
    fun _ mem same => absurd same (not_badge_of_mem_removed mem)

theorem Lawful.takeCredReinstate (h : Lawful p) (b : Badge) : Lawful (takeCredReinstate b p).part :=
  h.onCred fun c _ found => by
    split
    · obtain ⟨active, exhausted⟩ := enrolledState_inStep c.quota
      exact h.rewriteCred found rfl rfl rfl ((h.stores.records b c found).withState active exhausted) rfl
        (.refl _) fun _ _ _ _ => enrolledState_ne_suspended _
    · exact h

theorem Lawful.takeQuotaReload (h : Lawful p) (f : QuotaFields) : Lawful (takeQuotaReload f p).part :=
  h.onCred fun c _ found => by
    have sound := h.stores.records f.badge c found
    split
    · exact h
    next fits =>
      split
      · exact h
      next allowed =>
        have positive : c.reserved = true → byte f.remaining.toNat ≠ 0 := fun reserved zero => by
          have : f.remaining ≠ 0 := by simpa [reserved] using allowed
          simp only [byte] at zero
          bv_omega
        obtain ⟨active, exhausted⟩ := deriveState_inStep c.state (some (byte f.remaining.toNat))
        exact h.rewriteCred found rfl rfl rfl
          ⟨sound.count, sound.grants, active, exhausted, fun on => ⟨nofun, fun zero => positive on (Option.some.inj zero)⟩⟩
          rfl (.refl _) fun _ _ _ free => mt (deriveState_suspended _ _).1 free

theorem Lawful.retire (h : Lawful p) (b : Badge) : Lawful (p.retire b) := by
  cases found : p.cred b with
  | none =>
    have same : p.retire b = p := by unfold Part.retire; rw [found]
    rwa [same]
  | some c =>
    have stores := h.stores
    rw [retire_present p found]
    obtain ⟨main, ret⟩ := countDown_frame
      ((p.withCreds (Table.erase p.ret.creds b.toNat)).removeBadgeTickets b) c.tenant
    have recounted := recounted_countDown
      (p := (p.withCreds (Table.erase p.ret.creds b.toNat)).removeBadgeTickets b) stores.tenants c
    refine h.assignCred (o := none) ((badgeKey_iff b).2 (key_of_lookup stores.creds.2 found)) ret ?_ ?_
      ((length_erase_le _ _).trans stores.room) (fun _ mem => absurd mem (Option.not_mem_none _))
      (fun _ mem => absurd mem (Option.not_mem_none _)) ?_ fun t mem same => ?_
    · rw [main]; rfl
    · rw [show credAt p.ret b = some c from found]; exact recounted
    · rw [main]; exact List.filter_sublist
    · rw [main] at mem
      exact absurd same (not_badge_of_mem_removed mem)

theorem Lawful.takeCredRetire (h : Lawful p) (b : Badge) : Lawful (takeCredRetire b p).part :=
  h.onCred fun _ _ _ => h.retire b

theorem Lawful.takeCredRead (h : Lawful p) (b : Badge) : Lawful (takeCredRead b p).part := h.onCred fun _ _ _ => h

theorem Lawful.takeCredNext (h : Lawful p) (b : Badge) : Lawful (takeCredNext b p).part := by
  unfold Machine.takeCredNext
  split <;> exact h

end Sys2Proof.Laws
end

section
/-! SUPPORT. Enrolment and amendment, the purge and the sweep (sections 1.5, 1.6, 2.5, 3.4): each keeps the laws. -/

namespace Sys2Proof.Laws

open Sys2Proof.Machine Sys2Proof.Safety

variable {p : Part}

/-! ## Enrolment and amendment -/

theorem imageOk_iff (i : CredImage) : imageOk i = true ↔ badgeKey i.badge = true ∧ (CredClass.ofCode i.cls).isSome = true ∧
    homeOk i = true ∧ i.grants.length ≤ Config.personalGrants ∧ i.grants.all grantOk = true ∧ daysOk i = true := by
  simp only [imageOk, Bool.and_eq_true, decide_eq_true_eq, and_assoc]

theorem tenantFree_iff (t : Byte) : p.tenantFree t = true ↔ t ≠ 0 ∧ tenantAt p.ret t = none := by
  simp only [Part.tenantFree, Bool.and_eq_true, decide_eq_true_eq, Option.isNone_iff_eq_none, Part.tenant]

theorem tenantIs_iff (t : Byte) (state : TenantState) :
    p.tenantIs t state = true ↔ tenantState p.ret t = some state := by
  unfold Part.tenantIs
  cases found : p.tenant t <;> simp [tenantState, tenantAt, show Table.lookup p.ret.tenants t.toNat = _ from found]

theorem tenantPurging_iff (t : Byte) : p.tenantPurging t = true ↔ t ≠ 0 ∧ tenantState p.ret t = some .purging := by
  rw [Part.tenantPurging, Bool.and_eq_true, decide_eq_true_eq, tenantIs_iff]

theorem recordOf_sound {i : CredImage} (ok : imageOk i = true) {state : CredState} {reserved : Bool}
    (active : i.quota = some 0 → state ≠ .active) (exhausted : state = .exhausted → i.quota = some 0)
    (charged : reserved = true → i.quota ≠ none ∧ i.quota ≠ some 0) : CredSound (recordOf i state reserved) := by
  obtain ⟨-, -, -, count, grants, -⟩ := (imageOk_iff i).1 ok
  exact ⟨count, grants, active, exhausted, charged⟩

/-- A record of a tenant that is neither FREE nor PURGING may be written anywhere. -/
theorem Lawful.admissible (h : Lawful p) {b : Badge} {c : Cred} (sound : CredSound c)
    (present : p.tenantFree c.tenant ≠ true) (free : p.tenantPurging c.tenant ≠ true) : Admissible p.ret b c := by
  rw [ne_eq, tenantFree_iff] at present
  rw [ne_eq, tenantPurging_iff] at free
  refine ⟨sound, ?_, fun on _ same => ?_⟩
  · by_cases zero : c.tenant = 0
    · exact .inl zero
    · exact .inr (Option.isSome_iff_ne_none.2 fun none => present ⟨zero, none⟩)
  · have purging := h.stores.counted.walker on
    rw [← same] at purging
    refine free ⟨fun zero => ?_, purging⟩
    rw [zero, tenantState, tenantAt_zero h.stores.tenants] at purging
    cases purging

theorem not_chargesTrip {b : Badge} (free : p.badgeInCall b ≠ true) : chargesTrip p.main b = false := by
  rw [Bool.eq_false_iff]
  intro charges
  obtain ⟨e, mem, names⟩ := List.any_eq_true.1 charges
  exact free (List.any_eq_true.2 ⟨e, mem, (Bool.and_eq_true _ _ ▸ names).2⟩)

theorem Lawful.enrol (h : Lawful p) {i : CredImage} (ok : imageOk i = true) (new : p.cred i.badge = none)
    (free : p.badgeInCall i.badge ≠ true) (present : p.tenantFree i.tenant ≠ true)
    (unpurged : p.tenantPurging i.tenant ≠ true) (room : p.ret.creds.length < Config.credentials) :
    Lawful (p.enrol i) := by
  obtain ⟨key, -⟩ := (imageOk_iff i).1 ok
  have absent : credAt p.ret i.badge = none := new
  obtain ⟨active, exhausted⟩ := enrolledState_inStep i.quota
  have sound : CredSound (recordOf i (enrolledState i.quota) false) := recordOf_sound ok active exhausted nofun
  generalize hc : recordOf i (enrolledState i.quota) false = c at sound
  have tenant : c.tenant = i.tenant := by rw [← hc]; rfl
  have reserved : c.reserved = false := by rw [← hc]; rfl
  have done : p.enrol i = (p.withCreds (Table.put p.ret.creds i.badge.toNat c)).countUp c.tenant := by
    rw [tenant, ← hc]; rfl
  rw [← tenant] at present unpurged
  rw [done]
  obtain ⟨main, ret⟩ := countUp_frame (p.withCreds (Table.put p.ret.creds i.badge.toNat c)) c.tenant
  refine h.assignCred (o := some c) key ret ?_ ?_ ((length_put_le _ _ _).trans room) ?_ ?_ ?_ fun t mem same => ?_
  · rw [main]; rfl
  · rw [absent]
    exact recounted_countUp (p := p.withCreds (Table.put p.ret.creds i.badge.toNat c)) h.stores.tenants c
  · rintro _ ⟨⟩
    exact h.admissible sound present unpurged
  · rintro _ ⟨⟩
    rw [reserved, not_chargesTrip free]
  · rw [main]
    exact .refl _
  · rw [main] at mem
    obtain ⟨⟨c₀, found, -⟩, -⟩ := h.main.tickets.1 t mem
    rw [same, show Table.lookup p.ret.creds i.badge.toNat = none from absent] at found
    cases found

theorem Lawful.takeCredEnrol (h : Lawful p) (i : CredImage) : Lawful (takeCredEnrol i p).part := by
  unfold Machine.takeCredEnrol
  split
  · exact h
  next ok =>
    split
    · exact h
    next new =>
      split
      · exact h
      next free =>
        split
        · exact h
        next tenant =>
          split
          · exact h
          next room =>
            rw [Bool.or_eq_true, not_or] at tenant
            exact h.enrol (by simpa using ok) (by simpa using new) free tenant.1 tenant.2 (Nat.lt_of_not_le room)

theorem amended_suspended (i : CredImage) (c : Cred) : (amended i c).state = .suspended ↔ c.state = .suspended :=
  deriveState_suspended _ _

/-- The amended part, with the ticket removal of R10 given by what stays in the pool. -/
theorem amend_spec (i : CredImage) (c : Cred) :
    (p.amend i c).main = { p.main with
      tickets := if p.tenantLive i.tenant then p.main.tickets
        else p.main.tickets.filter fun t => !decide (t.badge = i.badge) } ∧
    (p.amend i c).ret = { p.ret with
      creds := Table.put p.ret.creds i.badge.toNat (amended i c)
      tenants := ((p.withCreds (Table.put p.ret.creds i.badge.toNat (amended i c))).moveTenant c.tenant i.tenant).ret.tenants
      } := by
  obtain ⟨main, ret⟩ :=
    moveTenant_frame (p.withCreds (Table.put p.ret.creds i.badge.toNat (amended i c))) c.tenant i.tenant
  unfold Part.amend
  dsimp only
  split
  · exact ⟨main, ret⟩
  · rw [Part.removeBadgeTickets, removeTickets_main, removeTickets_ret, main, ret]
    exact ⟨rfl, rfl⟩

theorem Lawful.amend (h : Lawful p) {i : CredImage} {c : Cred} (ok : imageOk i = true)
    (found : p.cred i.badge = some c) (present : p.tenantFree i.tenant ≠ true)
    (unpurged : p.tenantPurging i.tenant ≠ true)
    (charged : c.reserved = true → i.quota ≠ none ∧ i.quota ≠ some 0) : Lawful (p.amend i c) := by
  obtain ⟨key, -⟩ := (imageOk_iff i).1 ok
  obtain ⟨active, exhausted⟩ := deriveState_inStep c.state i.quota
  have sound : CredSound (amended i c) := recordOf_sound ok active exhausted charged
  have stores := h.stores
  obtain ⟨trips, -⟩ := (tripsReserved_iff stores.creds).1 h.main.trips
  obtain ⟨main, ret⟩ := amend_spec (p := p) i c
  have recounted := recounted_moveTenant (p := p.withCreds (Table.put p.ret.creds i.badge.toNat (amended i c)))
    stores.tenants c (amended i c)
  refine h.assignCred (o := some (amended i c)) key ?_ ?_ ?_
    ((length_put_of_lookup stores.creds.1 found _).trans_le stores.room) ?_ ?_ ?_ fun t mem same => ?_
  · rw [ret]; rfl
  · rw [main]
  · rw [ret, show credAt p.ret i.badge = some c from found]
    exact recounted
  · rintro _ ⟨⟩
    exact h.admissible sound present unpurged
  · rintro _ ⟨⟩
    exact trips _ c found
  · rw [main]
    dsimp only
    split
    · exact .refl _
    · exact List.filter_sublist
  · rw [main] at mem
    dsimp only at mem
    split at mem
    next live =>
      obtain ⟨⟨c₀, found₀, free, -⟩, -⟩ := h.main.tickets.1 t mem
      obtain rfl : c₀ = c := Option.some.inj (found₀.symm.trans (same ▸ found))
      exact ⟨_, rfl, mt (amended_suspended i c₀).1 free, (tenantLive_iff p _).1 live⟩
    next => exact absurd same (not_badge_of_mem_removed mem)

theorem Lawful.takeCredAmend (h : Lawful p) (i : CredImage) : Lawful (takeCredAmend i p).part := by
  unfold Machine.takeCredAmend
  split
  · exact h
  · cases found : p.cred i.badge with
    | none => exact h
    | some c =>
      dsimp only
      split
      · exact h
      next ok =>
        split
        · exact h
        next present =>
          split
          · exact h
          next unpurged =>
            split
            · exact h
            next charged =>
              rw [Bool.or_eq_true, not_or] at unpurged
              exact h.amend (by simpa using ok) found present unpurged.2 (by simpa using charged)

/-! ## The purge walker (R38, R39) -/

theorem next_least {α : Type} {t : Table α} (sorted : Table.sorted t) {n k : Nat} {v : α}
    (next : Table.next t n = some (k, v)) {e : Nat × α} (mem : e ∈ t) (above : n < e.1) : k ≤ e.1 := by
  obtain ⟨-, before, after, split, skipped⟩ := List.find?_eq_some_iff_append.1 next
  rw [split] at mem sorted
  rcases List.mem_append.1 mem with early | late
  · exact absurd above (by simpa using skipped e early)
  · rcases List.mem_cons.1 late with rfl | later
    · exact Nat.le_refl _
    · exact Nat.le_of_lt ((List.pairwise_cons.1 (List.pairwise_append.1 sorted).2.1).1 e later)

theorem Lawful.movePurge (h : Lawful p) {k : Nat} (passed : p.ret.purge.running = true →
      ∀ b c, credAt p.ret b = some c → b.toNat ≤ k → c.tenant ≠ p.ret.purge.tenant) :
    Lawful (p.withPurge { p.ret.purge with position := k }) := by
  obtain ⟨creds, tenants, room, records, floors, present, counts, purging, walker, -⟩ := h.stores
  exact ⟨retentionLaws_withStores h.ret
    ⟨creds, tenants, room, records, floors, present, counts, purging, walker, passed⟩, { h.main with }, h.intact⟩

theorem Lawful.endPurge (h : Lawful p) (running : p.ret.purge.running = true)
    (unnamed : ∀ b c, credAt p.ret b = some c → c.tenant ≠ p.ret.purge.tenant) : Lawful p.endPurge := by
  have stores := h.stores
  obtain ⟨creds, tenants, room, records, floors, present, counts, purging, walker, -⟩ := stores
  generalize ht : p.ret.purge.tenant = t at *
  have others : ∀ x : Byte, x ≠ t → Table.lookup (Table.erase p.ret.tenants t.toNat) x.toNat = tenantAt p.ret x :=
    fun x other => lookup_erase_ne _ _ _ fun same => other (BitVec.eq_of_toNat_eq same)
  have kept : ∀ x v, Table.lookup (Table.erase p.ret.tenants t.toNat) x.toNat = some v →
      x ≠ t ∧ tenantAt p.ret x = some v := fun x v found => by
    have other : x ≠ t := fun same => by rw [same, lookup_erase_self] at found; cases found
    exact ⟨other, others x other ▸ found⟩
  have after : StoresLawful { p.ret with
      tenants := Table.erase p.ret.tenants t.toNat, purge := ⟨false, t, 0⟩ } := by
    refine ⟨creds, ⟨sorted_erase tenants.1 _, keysWithin_erase tenants.2 _⟩, room, records,
      fun x v found => floors x v (kept x v found).2, fun b c found => ?_, fun x v found => counts x v (kept x v found).2,
      fun x v found state => ?_, nofun, nofun⟩
    · rw [tenantAt, others _ (unnamed b c found)]
      exact present b c found
    · obtain ⟨other, found⟩ := kept x v found
      exact absurd (purging x v found state).2.symm other
  have freed : Lawful ((p.withTenants (Table.erase p.ret.tenants t.toNat)).withPurge ⟨false, t, 0⟩) := by
    refine ⟨retentionLaws_withStores h.ret after, { h.main with
      overlays := ⟨h.main.overlays.1, fun e mem => ⟨(h.main.overlays.2 e mem).1, ?_⟩⟩
      tickets := ticketsEntitled_sublist h.main.tickets rfl (.refl _) fun ticket mem c found allowed => ⟨c, found, ?_⟩ },
      h.intact⟩
    · obtain ⟨state, found, free⟩ := (h.main.overlays.2 e mem).2
      have other : e.2.tenant ≠ t := fun same => by
        rw [same, show (Table.lookup p.ret.tenants t.toNat).map Tenant.state = some .purging from
          walker running] at found
        exact free (Option.some.inj found).symm
      refine ⟨state, ?_, free⟩
      dsimp only [withPurge_ret, withTenants_ret]
      rw [others _ other]
      exact found
    · refine ⟨allowed.1, allowed.2.imp_right fun live => ?_⟩
      dsimp only [withPurge_ret, withTenants_ret]
      rw [others _ (unnamed _ c found)]
      exact live
  unfold Part.endPurge
  rw [ht]
  exact freed.raisePurgeDone

theorem Lawful.purgeVisit (h : Lawful p) : Lawful p.purgeVisit := by
  obtain ⟨creds, -, -, -, -, -, counts, -, walker, passed⟩ := h.stores
  unfold Part.purgeVisit
  split
  · exact h
  next on =>
    have running : p.ret.purge.running = true := by simpa using on
    split
    next empty =>
      refine h.endPurge running fun b c found names => ?_
      obtain ⟨v, was, -⟩ := Option.map_eq_some_iff.1 (walker running)
      have count : v.count = 0 := by
        rw [← empty, Part.purgeCount, show p.tenant p.ret.purge.tenant = some v from was]
      rw [counts _ v was] at count
      have named := List.eq_nil_of_length_eq_zero count
      exact List.filter_eq_nil_iff.1 named _ (mem_of_lookup found) (decide_eq_true names)
    next =>
      split
      next last =>
        exact h.endPurge running fun b c found =>
          passed running b c found (next_none last _ (mem_of_lookup found))
      next k c next =>
        have mem := (next_some next).1
        have key := (badge_ofNat (creds.2 _ mem).2 : (BitVec.ofNat 40 k : Badge).toNat = k)
        have below : ∀ b d, credAt p.ret b = some d → b.toNat ≤ k → b ≠ BitVec.ofNat 40 k →
            d.tenant ≠ p.ret.purge.tenant := fun b d found le other => by
          refine passed running b d found (Nat.le_of_not_lt fun above => other ?_)
          have least := next_least creds.1 next (mem_of_lookup found) above
          exact BitVec.eq_of_toNat_eq (by rw [key]; exact Nat.le_antisymm le least)
        unfold Part.purgeRecord
        dsimp only
        split
        next names =>
          obtain ⟨ret, -⟩ := retire_frame p (BitVec.ofNat 40 k)
          have same : p.ret.purge = (p.retire (BitVec.ofNat 40 k)).ret.purge := by rw [ret]
          have gone := retire_present p (b := BitVec.ofNat 40 k) (c := c)
            (by rw [Part.cred, key]; exact lookup_of_mem creds.1 mem)
          rw [same]
          refine (h.retire _).movePurge fun _ b d found le => ?_
          rw [← same]
          have erased : (p.retire (BitVec.ofNat 40 k)).ret.creds =
              Table.erase p.ret.creds (BitVec.ofNat 40 k : Badge).toNat := by
            rw [gone, (countDown_frame _ _).2]; rfl
          rw [credAt, erased] at found
          have other : b ≠ BitVec.ofNat 40 k := fun same => by rw [same, lookup_erase_self] at found; cases found
          rw [lookup_erase_ne _ _ _ fun same => other (BitVec.eq_of_toNat_eq same)] at found
          exact below b d found le other
        next unnamed =>
          refine h.movePurge fun _ b d found le => ?_
          by_cases same : b = BitVec.ofNat 40 k
          · rw [same, credAt, key, lookup_of_mem creds.1 mem] at found
            obtain rfl := Option.some.inj found
            exact unnamed
          · exact below b d found le same

/-! ## The sweep walker (R63, R64) and the calendar -/

/-- A sweep walker whose counts keep their bound, and a calendar whose minute and second keep theirs. -/
theorem retentionLaws_withCalendar {r : Retention} (h : RetentionLaws r) {w : SweepWalker} {k : Calendar}
    (count : w.count ≤ Config.sweepCountMax) (last : w.lastCount ≤ Config.sweepCountMax) (minute : k.minute ≤ 1439)
    (second : k.second ≤ 59) : RetentionLaws { r with sweep := w, calendar := k } := by
  obtain ⟨room, grants, floors, windows, ranges, holidays, params, -⟩ := h.limits
  exact { h with limits := ⟨room, grants, floors, windows, ranges, holidays, params, minute, second, count, last⟩ }

theorem Lawful.withSweep (h : Lawful p) {w : SweepWalker} (count : w.count ≤ Config.sweepCountMax)
    (last : w.lastCount ≤ Config.sweepCountMax) : Lawful (p.withSweep w) := by
  obtain ⟨-, -, -, -, -, -, -, minute, second, -⟩ := h.ret.limits
  exact ⟨retentionLaws_withCalendar h.ret count last minute second, { h.main with }, h.intact⟩

theorem Lawful.sweepVisit (h : Lawful p) : Lawful p.sweepVisit := by
  obtain ⟨-, -, -, -, -, -, -, -, -, count, last⟩ := h.ret.limits
  unfold Part.sweepVisit
  split
  · exact h
  · split
    · exact (h.withSweep (Nat.zero_le _) count).raiseSweepDone
    next k c _ =>
      unfold Part.sweepRecord
      dsimp only
      split
      · exact (h.retire _).withSweep (Nat.min_le_right _ _) last
      · exact h.withSweep count last

end Sys2Proof.Laws
end

section
/-! SUPPORT. The commands on tenants and overlay slots (chapter 2): each keeps the laws. -/

namespace Sys2Proof.Laws

open Sys2Proof.Machine Sys2Proof.Safety

variable {p : Part} {r : Retention}

/-! ## A tenant's record written -/

theorem lookup_put_byte {α : Type} (t : Table α) (a b : Byte) (v : α) :
    Table.lookup (Table.put t a.toNat v) b.toNat = if b = a then some v else Table.lookup t b.toNat := by
  rw [lookup_put]
  exact if_congr BitVec.toNat_inj rfl rfl

theorem tenantKey {t : Byte} (nonzero : t ≠ 0) : 1 ≤ t.toNat ∧ t.toNat ≤ 255 := by
  have := t.isLt
  bv_omega

theorem StoresLawful.putTenant (h : StoresLawful r) {t : Byte} (nonzero : t ≠ 0) {v : Tenant}
    (floors : grantListOk v.grants = true) (count : v.count = recordsNaming r t) (free : v.state ≠ .purging)
    (was : tenantState r t ≠ some .purging) :
    StoresLawful { r with tenants := Table.put r.tenants t.toNat v } := by
  have lookup := lookup_put_byte r.tenants t (v := v)
  have found : ∀ x w, Table.lookup (Table.put r.tenants t.toNat v) x.toNat = some w →
      (x = t ∧ w = v) ∨ tenantAt r x = some w := fun x w found => by
    rw [lookup] at found
    split at found
    next same => exact .inl ⟨same, (Option.some.inj found).symm⟩
    next => exact .inr found
  refine ⟨h.creds, ⟨sorted_put h.tenants.1 _ _, keysWithin_put h.tenants.2 (tenantKey nonzero) _⟩, h.room, h.records,
    fun x w here => ?_, fun b c here => ?_, fun x w here => ?_, fun x w here state => ?_, fun on => ?_, h.counted.passed⟩
  · rcases found x w here with ⟨-, rfl⟩ | before
    · exact floors
    · exact h.floors x w before
  · refine (h.counted.present b c here).imp_right fun present => ?_
    rw [tenantAt, lookup]
    split
    · rfl
    · exact present
  · rcases found x w here with ⟨rfl, rfl⟩ | before
    · exact count
    · exact h.counted.counts x w before
  · rcases found x w here with ⟨-, rfl⟩ | before
    · exact absurd state free
    · exact h.counted.purging x w before state
  · have purging := h.counted.walker on
    have other : r.purge.tenant ≠ t := fun same => was (same ▸ purging)
    rw [tenantState, tenantAt, lookup, if_neg other]
    exact purging

/-- A tenant's record written over one that is not PURGING keeps the laws where its count and grants are in order and the
tickets of its credentials stay only while it is LIVE. -/
theorem Lawful.writeTenant (h : Lawful p) {q : Part} {t : Byte} {v : Tenant} (nonzero : t ≠ 0)
    (ret : q.ret = { p.ret with tenants := Table.put p.ret.tenants t.toNat v })
    (main : q.main = { p.main with tickets := q.main.tickets })
    (floors : grantListOk v.grants = true) (count : v.count = recordsNaming p.ret t) (free : v.state ≠ .purging)
    (was : tenantState p.ret t ≠ some .purging) (sub : q.main.tickets.Sublist p.main.tickets)
    (live : ∀ ticket ∈ q.main.tickets, ∀ c, credAt p.ret ticket.badge = some c → c.tenant = t →
      tenantState p.ret t = some .live → v.state = .live) : Lawful q := by
  obtain ⟨qr, m⟩ := q
  dsimp only at ret main sub live
  generalize m.tickets = tickets at *
  subst ret main
  have stores := h.stores.putTenant nonzero floors count free was
  have lookup := lookup_put_byte p.ret.tenants t (v := v)
  obtain ⟨arbiter, calls, queue, pool, limits⟩ := h.main.limits
  refine ⟨retentionLaws_withStores h.ret stores, { h.main with
    limits := ⟨arbiter, calls, queue, sub.length_le.trans pool, limits⟩
    overlays := ⟨h.main.overlays.1, fun e mem => ⟨(h.main.overlays.2 e mem).1, ?_⟩⟩
    tickets := ticketsEntitled_sublist h.main.tickets rfl sub fun ticket mem c found allowed => ⟨c, found, ?_⟩
    recalled := ⟨h.main.recalled.1, fun t mem => h.main.recalled.2 t (sub.subset mem)⟩ }, h.intact⟩
  · rw [lookup]
    split
    · exact ⟨v.state, rfl, free⟩
    · exact (h.main.overlays.2 e mem).2
  · refine ⟨allowed.1, allowed.2.imp_right fun before => ?_⟩
    rw [lookup]
    split
    next same => exact congrArg some (live ticket mem c found same (same ▸ before))
    next => exact before

/-- A write over a present tenant's record, its count kept. -/
theorem Lawful.rewriteTenant (h : Lawful p) {q : Part} {t : Byte} {v w : Tenant} (found : p.tenant t = some v)
    (ret : q.ret = { p.ret with tenants := Table.put p.ret.tenants t.toNat w })
    (main : q.main = { p.main with tickets := q.main.tickets })
    (floors : grantListOk w.grants = true) (count : w.count = v.count) (free : w.state ≠ .purging)
    (was : v.state ≠ .purging) (sub : q.main.tickets.Sublist p.main.tickets)
    (live : ∀ ticket ∈ q.main.tickets, ∀ c, credAt p.ret ticket.badge = some c → c.tenant = t →
      v.state = .live → w.state = .live) : Lawful q := by
  have state : tenantState p.ret t = some v.state := congrArg (Option.map Tenant.state) found
  have nonzero : t ≠ 0 := fun zero => by
    rw [zero] at found
    cases found.symm.trans (tenantAt_zero h.stores.tenants)
  refine h.writeTenant nonzero ret main floors (count.trans (h.stores.counted.counts t v found)) free ?_ sub
    fun ticket mem c here same before => live ticket mem c here same ?_
  · rw [state]
    exact fun same => was (Option.some.inj same)
  · rw [state] at before
    exact Option.some.inj before

/-- No record names a FREE tenant. -/
theorem recordsNaming_free (h : StoresLawful r) {t : Byte} (nonzero : t ≠ 0) (free : tenantAt r t = none) :
    recordsNaming r t = 0 := by
  rw [recordsNaming_eq_countP, List.countP_eq_zero, forall_creds_iff h.creds]
  intro b c found names
  have names := of_decide_eq_true names
  rcases h.counted.present b c found with zero | present
  · exact nonzero (names.symm.trans zero)
  · rw [names, free] at present
    cases present

/-! ## The commands on tenants -/

theorem Lawful.onTenant (h : Lawful p) {t : Byte} {act : Tenant → Taken}
    (keeps : ∀ v, t ≠ 0 → p.tenant t = some v → Lawful (act v).part) : Lawful (onTenant t p act).part := by
  unfold Machine.onTenant
  split
  · exact h
  next nonzero =>
    cases found : p.tenant t with
    | none => exact h
    | some v => exact keeps v nonzero found

theorem Lawful.takeTenantCreate (h : Lawful p) (f : TenantFields) : Lawful (takeTenantCreate f p).part := by
  unfold Machine.takeTenantCreate
  split
  · exact h
  next nonzero =>
    split
    · exact h
    next floors =>
      split
      · exact h
      next free =>
        have absent : tenantAt p.ret f.tenant = none := Option.not_isSome_iff_eq_none.1 free
        refine h.writeTenant nonzero rfl rfl (by simpa using floors)
          (recordsNaming_free h.stores nonzero absent).symm nofun ?_ (.refl _) fun _ _ _ _ _ _ => rfl
        rw [tenantState, absent]
        nofun

theorem Lawful.takeTenantFloors (h : Lawful p) (f : TenantFields) : Lawful (takeTenantFloors f p).part :=
  h.onTenant fun v _ found => by
    split
    · exact h
    next floors =>
      split
      · exact h
      next free =>
        split
        · exact h
        · exact h.rewriteTenant found rfl rfl (by simpa using floors) rfl free free (.refl _) fun _ _ _ _ _ live => live

theorem Lawful.takeTenantSuspend (h : Lawful p) (t : Byte) : Lawful (takeTenantSuspend t p).part :=
  h.onTenant fun v _ found => by
    split
    · exact h
    next free =>
      refine h.rewriteTenant (w := { v with state := .suspended }) found rfl rfl (h.stores.floors t v found) rfl nofun
        free List.filter_sublist fun ticket mem c here names => ?_
      have kept := (List.mem_filter.1 mem).2
      have gone : (p.putTenant t { v with state := .suspended }).ticketOfTenant t ticket = true := by
        unfold Part.ticketOfTenant
        rw [show (p.putTenant t { v with state := .suspended }).cred ticket.badge = some c from here]
        exact decide_eq_true names
      rw [gone] at kept
      cases kept

theorem Lawful.takeTenantReinstate (h : Lawful p) (t : Byte) : Lawful (takeTenantReinstate t p).part :=
  h.onTenant fun v _ found => by
    split
    next suspended =>
      exact h.rewriteTenant (w := { v with state := .live }) found rfl rfl (h.stores.floors t v found) rfl nofun
        (by rw [suspended]; nofun) (.refl _) fun _ _ _ _ _ _ => rfl
    · exact h

theorem Lawful.takeTenantRead (h : Lawful p) (t : Byte) : Lawful (takeTenantRead t p).part := h.onTenant fun _ _ _ => h

/-- A purge begins on a SUSPENDED tenant that no slot names, while the walker is IDLE (R37). -/
theorem Lawful.beginPurge (h : Lawful p) {t : Byte} {v : Tenant} (nonzero : t ≠ 0) (found : p.tenant t = some v)
    (idle : p.ret.purge.running = false) (suspended : v.state = .suspended) (apart : p.overlayOf t = none) :
    Lawful ((p.putTenant t { v with state := .purging }).withPurge ⟨true, t, 0⟩) := by
  have stores := h.stores
  have lookup := lookup_put_byte p.ret.tenants t (v := { v with state := .purging })
  have others : ∀ x w, Table.lookup (Table.put p.ret.tenants t.toNat { v with state := .purging }) x.toNat = some w →
      (x = t ∧ w = { v with state := .purging }) ∨ (x ≠ t ∧ tenantAt p.ret x = some w) := fun x w here => by
    rw [lookup] at here
    split at here
    next same => exact .inl ⟨same, (Option.some.inj here).symm⟩
    next other => exact .inr ⟨other, here⟩
  have after : StoresLawful { p.ret with
      tenants := Table.put p.ret.tenants t.toNat { v with state := .purging }, purge := ⟨true, t, 0⟩ } := by
    refine ⟨stores.creds, ⟨sorted_put stores.tenants.1 _ _, keysWithin_put stores.tenants.2 (tenantKey nonzero) _⟩,
      stores.room, stores.records, fun x w here => ?_, fun b c here => ?_, fun x w here => ?_, fun x w here state => ?_,
      fun _ => ?_, fun _ b c here below => ?_⟩
    · rcases others x w here with ⟨-, rfl⟩ | ⟨-, before⟩
      · exact stores.floors t v found
      · exact stores.floors x w before
    · refine (stores.counted.present b c here).imp_right fun present => ?_
      rw [tenantAt, lookup]
      split
      · rfl
      · exact present
    · rcases others x w here with ⟨rfl, rfl⟩ | ⟨-, before⟩
      · exact stores.counted.counts x v found
      · exact stores.counted.counts x w before
    · rcases others x w here with ⟨rfl, -⟩ | ⟨-, before⟩
      · exact ⟨rfl, rfl⟩
      · have running := (stores.counted.purging x w before state).1
        rw [idle] at running
        cases running
    · rw [tenantState, tenantAt, lookup, if_pos rfl]
      rfl
    · exact absurd below (Nat.not_le.2 (key_of_lookup stores.creds.2 here).1)
  have unnamed : ∀ e ∈ p.main.overlays, e.2.tenant ≠ t := fun e mem names =>
    List.find?_eq_none.1 apart e mem (decide_eq_true names)
  refine ⟨retentionLaws_withStores h.ret after, { h.main with
    overlays := ⟨h.main.overlays.1, fun e mem => ⟨(h.main.overlays.2 e mem).1, ?_⟩⟩
    tickets := ticketsEntitled_sublist h.main.tickets rfl (.refl _) fun ticket mem c here allowed =>
      ⟨c, here, allowed.1, allowed.2.imp_right fun live => ?_⟩ }, h.intact⟩
  · dsimp only [withPurge_ret, Part.putTenant, withTenants_ret]
    rw [lookup, if_neg (unnamed e mem)]
    exact (h.main.overlays.2 e mem).2
  · have other : c.tenant ≠ t := fun same => by
      rw [same, show Table.lookup p.ret.tenants t.toNat = some v from found, Option.map_some, suspended] at live
      cases live
    dsimp only [withPurge_ret, Part.putTenant, withTenants_ret]
    rw [lookup, if_neg other]
    exact live

theorem Lawful.takeTenantPurge (h : Lawful p) (t : Byte) : Lawful (takeTenantPurge t p).part :=
  h.onTenant fun v nonzero found => by
    split
    · exact h
    next idle =>
      split
      · exact h
      next suspended =>
        split
        · exact h
        next apart =>
          exact h.beginPurge nonzero found (by simpa using idle) (by simpa using suspended) (by simpa using apart)

/-! ## The overlay slots -/

theorem slotOk_iff (slot : Byte) : slotOk slot = true ↔ slot.toNat < 2 := by
  simp [slotOk, Config.overlaySlots]

/-- A slot written: its tenant is present, not PURGING, and named by no other slot. -/
theorem Lawful.putOverlay (h : Lawful p) {slot : Byte} (place : slot.toNat < 2) {o : Overlay}
    (floors : grantListOk o.grants = true) (state : ∃ s, tenantState p.ret o.tenant = some s ∧ s ≠ .purging)
    (apart : ∀ e ∈ p.main.overlays, e.1 ≠ slot.toNat → e.2.tenant ≠ o.tenant) : Lawful (p.putOverlay slot o) := by
  obtain ⟨⟨sorted, keys⟩, tables⟩ := h.main.tables
  have sorted' := sorted_put sorted slot.toNat o
  refine ⟨h.ret, { h.main with
    tables := ⟨⟨sorted', keysWithin_put keys ⟨Nat.zero_le _, Nat.le_of_lt_succ place⟩ o⟩, tables⟩
    overlays := ⟨?_, fun e mem => ?_⟩ }, h.intact⟩
  · exact pairwise_put sorted (fun _ _ other => other.symm) h.main.overlays.1 apart
  · rcases mem_put mem with rfl | mem
    · exact ⟨floors, state⟩
    · exact h.main.overlays.2 e mem

theorem Lawful.freeOverlay (h : Lawful p) (slot : Byte) : Lawful (p.freeOverlay slot) := by
  obtain ⟨⟨sorted, keys⟩, tables⟩ := h.main.tables
  exact ⟨h.ret, { h.main with
    tables := ⟨⟨sorted_erase sorted _, keysWithin_erase keys _⟩, tables⟩
    overlays := ⟨h.main.overlays.1.sublist List.filter_sublist, fun e mem =>
      h.main.overlays.2 e (mem_erase.1 mem).1⟩ }, h.intact⟩

theorem Lawful.takeOverlayOpen (h : Lawful p) (f : OverlayOpenFields) : Lawful (takeOverlayOpen f p).part := by
  unfold Machine.takeOverlayOpen
  split
  · exact h
  next operands =>
    split
    · exact h
    · cases found : p.tenant f.tenant with
      | none => exact h
      | some v =>
        dsimp only
        split
        · exact h
        next free =>
          split
          · exact h
          next apart =>
            rw [Bool.or_eq_true, not_or, Bool.not_eq_true', Bool.not_eq_false, slotOk_iff] at operands
            have unnamed : p.overlayOf f.tenant = none := Option.not_isSome_iff_eq_none.1 apart
            exact h.putOverlay operands.1 (h.stores.floors _ v found)
              ⟨v.state, congrArg (Option.map Tenant.state) found, free⟩ fun e mem _ names =>
                List.find?_eq_none.1 unnamed e mem (decide_eq_true names)

theorem Lawful.onOverlay (h : Lawful p) {slot : Byte} {operandsOk : Bool} {act : Overlay → Taken}
    (keeps : ∀ o, slot.toNat < 2 → operandsOk = true → p.overlay slot = some o → Lawful (act o).part) :
    Lawful (onOverlay slot operandsOk p act).part := by
  unfold Machine.onOverlay
  split
  · exact h
  next operands =>
    rw [Bool.or_eq_true, not_or, Bool.not_eq_true', Bool.not_eq_false, Bool.not_eq_true', Bool.not_eq_false,
      slotOk_iff] at operands
    cases found : p.overlay slot with
    | none => exact h
    | some o => exact keeps o operands.1 operands.2 found

/-- A slot in use rewritten for the same tenant. -/
theorem Lawful.rewriteOverlay (h : Lawful p) {slot : Byte} (place : slot.toNat < 2) {o o' : Overlay}
    (found : p.overlay slot = some o) (tenant : o'.tenant = o.tenant) (floors : grantListOk o'.grants = true) :
    Lawful (p.putOverlay slot o') := by
  have mem := mem_of_lookup found
  refine h.putOverlay place floors (tenant ▸ (h.main.overlays.2 _ mem).2) fun e there other => ?_
  rw [tenant]
  exact (pairwise_iff_of_sorted h.main.tables.1.1 fun _ _ ne => ne.symm).1 h.main.overlays.1 e there _ mem other

theorem Lawful.takeOverlayEdit (h : Lawful p) (f : OverlayEditFields) : Lawful (takeOverlayEdit f p).part :=
  h.onOverlay fun o place floors found => h.rewriteOverlay (o' := { o with grants := f.grants }) place found rfl floors

theorem Lawful.takeOverlayApply (h : Lawful p) (f : OverlayApplyFields) : Lawful (takeOverlayApply f p).part :=
  h.onOverlay fun o place _ found =>
    h.rewriteOverlay (o' := { o with scope := Scope.ofCode f.scope }) place found rfl
      (h.main.overlays.2 _ (mem_of_lookup found)).1

theorem Lawful.takeOverlayCommit (h : Lawful p) (slot : Byte) : Lawful (takeOverlayCommit slot p).part :=
  h.onOverlay fun o _ _ found => by
    obtain ⟨floors, state, there, free⟩ := h.main.overlays.2 _ (mem_of_lookup found)
    obtain ⟨v, present, rfl⟩ := Option.map_eq_some_iff.1 there
    have written : Lawful (p.modTenant o.tenant fun w => { w with grants := o.grants }) := by
      unfold Part.modTenant
      rw [show p.tenant o.tenant = some v from present]
      exact h.rewriteTenant (w := { v with grants := o.grants }) present rfl rfl floors rfl free free (.refl _)
        fun _ _ _ _ _ live => live
    exact written.freeOverlay slot

theorem Lawful.takeOverlayDiscard (h : Lawful p) (slot : Byte) : Lawful (takeOverlayDiscard slot p).part :=
  h.onOverlay fun _ _ _ _ => h.freeOverlay slot

theorem Lawful.takeOverlayRead (h : Lawful p) (slot : Byte) : Lawful (takeOverlayRead slot p).part := by
  unfold Machine.takeOverlayRead
  split <;> exact h

end Sys2Proof.Laws
end

section
/-! SUPPORT. The laws without those of the modes, which a change of mode suspends while it ends calls; and the laws of the
drops and their polls, read by drop and by link. -/

namespace Sys2Proof.Laws

open Sys2Proof.Machine Sys2Proof.Safety

/-! ## The laws apart from the modes -/

/-- The laws of a part whose main well runs, but for those of the modes. -/
structure CoreLawful (p : Part) : Prop where
  ret : RetentionLaws p.ret
  tables : MainTables p.main
  limits : MainLimits p.main
  overlays : OverlaysApart p.ret p.main
  drops : DropsBounded p.ret p.main
  polls : PollsInStep p.main
  calls : CallsApart p.ret p.main
  trips : TripsReserved p.ret p.main
  tickets : TicketsEntitled p.ret p.main
  link : LinkInStep p.main
  lines : LinesDebounced p.main
  intact : p.ret.intact = true

variable {p : Part}

theorem Lawful.core (h : Lawful p) : CoreLawful p := { h.main with ret := h.ret, intact := h.intact }

theorem CoreLawful.lawful (h : CoreLawful p) (modes : ModesHeld p.ret p.main) (recalled : RecallClears p.main) :
    Lawful p := ⟨h.ret, { h with modes, recalled }, h.intact⟩

theorem CoreLawful.stores (h : CoreLawful p) : StoresLawful p.ret := storesLawful_of_retentionLaws h.ret

theorem CoreLawful.withSendQueue (h : CoreLawful p) {l : List DispatcherFrame} (fits : l.length ≤ Config.sendQueue) :
    CoreLawful (p.withSendQueue l) := by
  obtain ⟨arbiter, calls, -, rest⟩ := h.limits
  exact { h with limits := ⟨arbiter, calls, fits, rest⟩ }

theorem CoreLawful.send (h : CoreLawful p) (f : DispatcherFrame) : CoreLawful (p.send f) := by
  obtain ⟨-, -, queue, -⟩ := h.limits
  have fits := send_within p f queue
  rw [send_spec] at fits ⊢
  exact h.withSendQueue fits

/-! ## The drops -/

/-- A call in flight names a drop. -/
def busy (m : Main) (i : Nat) : Bool := m.calls.any fun e => decide (e.2.drop = i)

theorem busy_iff {m : Main} {i : Nat} : busy m i = true ↔ ∃ e ∈ m.calls, e.2.drop = i := by simp [busy]

/-- What a drop holds against the bound of R161, given whether a call names it. -/
def loadOf (calling : Bool) (d : DropLive) : Nat := d.queue.length + tally calling + d.answers.length

theorem load_eq (m : Main) (i : Nat) (d : DropLive) : load m i d = loadOf (busy m i) d := rfl

/-- The law of one drop: live exactly when it is configured, holding nothing unless it is UP, within its bound. -/
structure DropSound (configured calling : Bool) (d : DropLive) : Prop where
  live : configured = true → d.state ≠ .unconfigured
  dead : configured = false → d = .unconfigured
  idle : d.state ≠ .up → d.queue = [] ∧ d.answers = [] ∧ d.memory = none ∧ d.escort = none
  queue : d.queue.length ≤ Config.requestQueue
  bound : loadOf calling d ≤ Config.answerList

/-- A drop is configured. -/
def configured (r : Retention) (i : Nat) : Bool := (Table.lookup r.drops i).isSome

theorem dropSound_emptied {state : DropState} {live calling : Bool} (same : live = decide (state ≠ .unconfigured)) :
    DropSound live calling (.emptied state) := by
  refine ⟨fun on => ?_, fun off => ?_, fun _ => ⟨rfl, rfl, rfl, rfl⟩, Nat.zero_le _, ?_⟩
  · rw [same] at on
    exact of_decide_eq_true on
  · rw [same, decide_eq_false_iff_not, not_not] at off
    rw [off]
    rfl
  · cases calling <;> simp [loadOf, DropLive.emptied, tally, Config.answerList]

theorem dropsBounded_iff {r : Retention} {m : Main} (canonical : Table.canonical .unconfigured m.drops)
    (sorted : Table.sorted r.drops) : DropsBounded r m ↔
      ∀ i, DropSound (configured r i) (busy m i) (Table.get .unconfigured m.drops i) := by
  constructor
  · rintro ⟨sound, listed⟩ i
    cases found : Table.lookup m.drops i with
    | none =>
      rw [Table.get, found]
      refine dropSound_emptied ?_
      cases config : Table.lookup r.drops i with
      | none => rw [configured, config]; rfl
      | some c =>
        have := listed _ (mem_of_lookup config)
        rw [found] at this
        cases this
    | some d =>
      obtain ⟨state, config, idle, queue, bound⟩ := sound _ (mem_of_lookup found)
      rw [get_of_lookup found]
      exact ⟨fun _ => state, fun off => absurd config (by simpa [configured] using off), idle, queue, bound⟩
  · intro sound
    refine ⟨(forall_mem_iff_get canonical).2 fun i other => ?_, (forall_mem_iff_lookup sorted).2 fun i c config => ?_⟩
    · obtain ⟨live, dead, idle, queue, bound⟩ := sound i
      have on : configured r i = true := by
        cases off : configured r i with
        | true => rfl
        | false => exact absurd (dead off) other
      exact ⟨live on, on, idle, queue, bound⟩
    · have on : configured r i = true := by rw [configured, config]; rfl
      have other : Table.get .unconfigured m.drops i ≠ .unconfigured := fun same =>
        (sound i).live on (by rw [same]; rfl)
      exact Option.isSome_iff_exists.2 ⟨_, lookup_eq_some_of_get_ne other⟩

/-! ## The polls -/

/-- The law of an outstanding poll beside its drop. -/
structure PollSound (calling : Bool) (q : Poll) (d : DropLive) : Prop where
  place : q.address ≤ 15
  carries : ∀ a, q.answer = some a → d.state = .up → d.answers.head? = some ⟨a, true⟩
  room : q.answer = none → loadOf calling d ≤ 3

theorem pollsInStep_iff {m : Main} (sorted : Table.sorted m.links) : PollsInStep m ↔
    ∀ l q, (Table.get .fresh m.links l).poll = some q →
      PollSound (busy m (dropIndex l q.address)) q (Table.get .unconfigured m.drops (dropIndex l q.address)) := by
  rw [PollsInStep, forall_mem_iff_lookup sorted]
  constructor
  · intro h l q outstanding
    cases found : Table.lookup m.links l with
    | none => rw [Table.get, found] at outstanding; cases outstanding
    | some k =>
      rw [get_of_lookup found] at outstanding
      obtain ⟨place, carries, room⟩ := h l k found q outstanding
      exact ⟨place, carries, room⟩
  · intro h l k found q outstanding
    obtain ⟨place, carries, room⟩ := h l q (by rw [get_of_lookup found]; exact outstanding)
    exact ⟨place, carries, room⟩

/-! ## Changes that keep both -/

/-- A drop changes within its state: its load does not rise, and the answer at the head of its list stays. -/
structure Eases (calling calling' : Bool) (d d' : DropLive) : Prop where
  state : d'.state = d.state
  queue : d'.queue.length ≤ d.queue.length
  bound : loadOf calling' d' ≤ loadOf calling d
  head : ∀ e, d.answers.head? = some e → d'.answers.head? = some e
  idle : d.state ≠ .up → d' = d

theorem Eases.refl {calling calling' : Bool} (d : DropLive) (fewer : calling' = true → calling = true) :
    Eases calling calling' d d := by
  refine ⟨rfl, Nat.le_refl _, ?_, fun _ => id, fun _ => rfl⟩
  have : tally calling' ≤ tally calling := by
    cases calling' with
    | false => exact Nat.zero_le _
    | true => rw [fewer rfl]
  unfold loadOf
  omega

theorem Eases.dropSound {calling calling' on : Bool} {d d' : DropLive} (h : Eases calling calling' d d')
    (sound : DropSound on calling d) : DropSound on calling' d' := by
  refine ⟨fun live => h.state ▸ sound.live live, fun off => ?_, fun down => ?_, h.queue.trans sound.queue,
    h.bound.trans sound.bound⟩
  · have same := sound.dead off
    rw [h.idle (by rw [same]; nofun), same]
  · rw [h.state] at down
    rw [h.idle down]
    exact sound.idle down

theorem Eases.pollSound {calling calling' : Bool} {d d' : DropLive} {q : Poll} (h : Eases calling calling' d d')
    (sound : PollSound calling q d) : PollSound calling' q d' :=
  ⟨sound.place, fun a carries up => h.head _ (sound.carries a carries (h.state ▸ up)),
    fun none => h.bound.trans (sound.room none)⟩

/-- Drops that ease keep the laws of the drops and of the polls. -/
theorem dropsAndPolls_of_eases {r : Retention} {m m' : Main} (tables : MainTables m) (sorted : Table.sorted r.drops)
    (canonical : Table.canonical .unconfigured m'.drops) (links : m'.links = m.links)
    (eases : ∀ i, Eases (busy m i) (busy m' i) (Table.get .unconfigured m.drops i) (Table.get .unconfigured m'.drops i))
    (drops : DropsBounded r m) (polls : PollsInStep m) : DropsBounded r m' ∧ PollsInStep m' := by
  obtain ⟨-, -, ⟨before, -⟩, ⟨⟨linked, -⟩, -⟩, -⟩ := tables
  rw [dropsBounded_iff before sorted] at drops
  rw [pollsInStep_iff linked] at polls
  rw [dropsBounded_iff canonical sorted, pollsInStep_iff (links ▸ linked), links]
  exact ⟨fun i => (eases i).dropSound (drops i), fun l q outstanding =>
    (eases _).pollSound (polls l q outstanding)⟩

end Sys2Proof.Laws
end

section
/-! SUPPORT. The endings of a call (chapter 6): an ending keeps the laws when its records, its tickets and its drop follow
the call that leaves; the unwinding and the assignment do. -/

namespace Sys2Proof.Laws

open Sys2Proof.Machine Sys2Proof.Safety

variable {p : Part} {r : Retention} {m : Main}

/-! ## The call that ends among the others -/

/-- The relation of `CallsApart` between two calls in flight. -/
def Apart (a b : Nat × Call) : Prop :=
  a.2.number ≠ b.2.number ∧ a.2.drop ≠ b.2.drop ∧ (a.2.badge = none ∨ a.2.badge ≠ b.2.badge)

theorem Apart.symm {a b : Nat × Call} (h : Apart a b) : Apart b a := by
  obtain ⟨number, drop, badge⟩ := h
  refine ⟨number.symm, drop.symm, ?_⟩
  rcases badge with none | other
  · by_cases same : b.2.badge = a.2.badge
    · exact .inl (same.trans none)
    · exact .inr same
  · exact .inr other.symm

theorem callsApart_of_ne (tables : MainTables m) (apart : CallsApart r m) {a b : Nat × Call} (ma : a ∈ m.calls)
    (mb : b ∈ m.calls) (other : a.1 ≠ b.1) : Apart a b :=
  (pairwise_iff_of_sorted tables.2.1.1 fun _ _ => Apart.symm).1 apart.1 a ma b mb other

theorem busy_of_erased {m' : Main} {slot : Nat} (calls : m'.calls = Table.erase m.calls slot) {i : Nat}
    (still : busy m' i = true) : busy m i = true := by
  rw [busy_iff, calls] at still
  obtain ⟨e, mem, names⟩ := still
  exact busy_iff.2 ⟨e, (mem_erase.1 mem).1, names⟩

section
variable (tables : MainTables m) (apart : CallsApart r m) {slot : Nat} {c : Call} (mem : (slot, c) ∈ m.calls)
  {m' : Main} (calls : m'.calls = Table.erase m.calls slot)
include tables apart mem calls

/-- The drop of the call that ends is named by no other. -/
theorem not_busy_of_erased : busy m' c.drop = false := by
  rw [Bool.eq_false_iff]
  intro still
  rw [busy_iff, calls] at still
  obtain ⟨e, there, names⟩ := still
  obtain ⟨there, other⟩ := mem_erase.1 there
  exact (callsApart_of_ne tables apart there mem other).2.1 names

/-- A badge keeps its trip to charge unless the call that ends has it. -/
theorem chargesTrip_of_erased (b : Badge) :
    chargesTrip m' b = (chargesTrip m b && !(c.charge && decide (c.badge = some b))) := by
  rw [Bool.eq_iff_iff]
  simp only [chargesTrip, calls, List.any_eq_true, Bool.and_eq_true, decide_eq_true_eq, Bool.not_eq_true',
    Bool.and_eq_false_iff, decide_eq_false_iff_not]
  constructor
  · rintro ⟨e, there, charge, badge⟩
    obtain ⟨there, other⟩ := mem_erase.1 there
    refine ⟨⟨e, there, charge, badge⟩, .inr fun same => ?_⟩
    rcases (callsApart_of_ne tables apart there mem other).2.2 with none | ne
    · rw [none] at badge; cases badge
    · exact ne (badge.trans same.symm)
  · rintro ⟨⟨e, there, charge, badge⟩, spared⟩
    refine ⟨e, mem_erase.2 ⟨there, fun same => ?_⟩, charge, badge⟩
    obtain rfl : e = (slot, c) := by
      have found := lookup_of_mem tables.2.1.1 there
      rw [same, lookup_of_mem tables.2.1.1 mem] at found
      exact Prod.ext same (Option.some.inj found).symm
    rcases spared with off | ne
    · rw [charge] at off; cases off
    · exact ne badge

end

/-! ## What an ending leaves of a drop -/

/-- The live states of the drops are in their one form, and each key is a drop's. -/
abbrev DropsForm (t : Table DropLive) : Prop := Table.canonical .unconfigured t ∧ keysWithin t 0 95

theorem place_of_up (form : DropsForm p.main.drops) {i : Nat} (up : (p.drop i).state = .up) : i ≤ 95 := by
  have other : p.drop i ≠ .unconfigured := fun same => by rw [same] at up; cases up
  exact (key_of_lookup form.2 (lookup_eq_some_of_get_ne other)).2

theorem dropsForm_setDrop (form : DropsForm p.main.drops) {i : Nat} (place : i ≤ 95) (d : DropLive) :
    DropsForm (p.setDrop i d).main.drops :=
  ⟨canonical_set form.1 i d, keysWithin_set form.2 ⟨Nat.zero_le _, place⟩ _ _⟩

theorem dropsForm_tell (form : DropsForm p.main.drops) (i : Nat) (a : Answer) : DropsForm (p.tell i a).main.drops := by
  rw [tell_spec]
  split
  next up => exact dropsForm_setDrop form (place_of_up form up) _
  next => exact form

theorem dropsForm_remember (form : DropsForm p.main.drops) (c : Call) (car : Byte) :
    DropsForm (p.remember c car).main.drops := by
  unfold Part.remember
  split
  · exact form
  · dsimp only
    split
    next up => exact dropsForm_setDrop form (place_of_up form up) _
    next => exact form

/-- A drop is told an answer, its state and its queue kept, and its answers unless it is UP. -/
structure Told (d d' : DropLive) (a : Answer) : Prop where
  state : d'.state = d.state
  queue : d'.queue = d.queue
  answers : d'.answers = d.answers ++ [⟨a, false⟩]

theorem Told.eases {d d' : DropLive} {a : Answer} (told : Told d d' a) (up : d.state = .up) : Eases true false d d' := by
  refine ⟨told.state, told.queue ▸ Nat.le_refl _, ?_, fun e head => ?_, fun down => absurd up down⟩
  · unfold loadOf
    rw [told.queue, told.answers, List.length_append]
    simp only [tally, if_true, Bool.false_eq_true, if_false, List.length_singleton]
    omega
  · rw [told.answers]
    cases list : d.answers with
    | nil => rw [list] at head; cases head
    | cons f l => rw [list] at head; exact head

/-! ## Endings -/

/-- What the laws ask of the ending of a call: the trip it was to charge is no longer reserved, its drop is told of it when
that is UP, and the tickets are in order without it. -/
structure Ends (p q : Part) (slot : Nat) (c : Call) (a : Answer) : Prop where
  ret : q.ret = { p.ret with creds := q.ret.creds }
  main : q.main = { p.main with
    tickets := q.main.tickets, drops := q.main.drops, calls := Table.erase p.main.calls slot }
  stores : StoresLawful q.ret
  reserved : ∀ b v, credAt q.ret b = some v → ∃ w, credAt p.ret b = some w ∧
    v.reserved = (w.reserved && !(c.charge && decide (c.badge = some b)))
  form : DropsForm q.main.drops
  others : ∀ i, i ≠ c.drop → q.drop i = p.drop i
  up : (p.drop c.drop).state = .up → Told (p.drop c.drop) (q.drop c.drop) a
  down : (p.drop c.drop).state ≠ .up → q.drop c.drop = p.drop c.drop
  pool : q.main.tickets.length ≤ p.main.tickets.length
  tickets : TicketsEntitled q.ret q.main
  groups : ∀ t ∈ q.main.tickets, ∃ u ∈ p.main.tickets, t.group = u.group

theorem Ends.eases {q : Part} {slot : Nat} {c : Call} {a : Answer} (ends : Ends p q slot c a) (h : CoreLawful p)
    (mem : (slot, c) ∈ p.main.calls) (i : Nat) : Eases (busy p.main i) (busy q.main i) (p.drop i) (q.drop i) := by
  have calls : q.main.calls = Table.erase p.main.calls slot := by rw [ends.main]
  by_cases here : i = c.drop
  · subst here
    rw [show busy p.main c.drop = true from busy_iff.2 ⟨_, mem, rfl⟩,
      not_busy_of_erased h.tables h.calls mem calls]
    by_cases up : (p.drop c.drop).state = .up
    · exact (ends.up up).eases up
    · rw [ends.down up]
      exact .refl _ nofun
  · rw [ends.others i here]
    exact .refl _ (busy_of_erased calls)

theorem CoreLawful.ends {q : Part} {slot : Nat} {c : Call} {a : Answer} (h : CoreLawful p)
    (mem : (slot, c) ∈ p.main.calls) (ends : Ends p q slot c a) : CoreLawful q := by
  have eases := ends.eases h mem
  have drops := dropsAndPolls_of_eases (m' := q.main) h.tables h.ret.tables.2.2.2.2.2.2.1.1 ends.form.1
    (by rw [ends.main]) eases h.drops h.polls
  have calls : q.main.calls = Table.erase p.main.calls slot := by rw [ends.main]
  have charges := chargesTrip_of_erased h.tables h.calls mem calls
  obtain ⟨trips, charged⟩ := (tripsReserved_iff h.stores.creds).1 h.trips
  obtain ⟨ret, main, stores, reserved, form, -, -, -, pool, tickets, -⟩ := ends
  obtain ⟨qr, qm⟩ := q
  obtain ⟨overlays, ⟨sorted, keys⟩, -, tables⟩ := h.tables
  obtain ⟨arbiter, room, queue, full, limits⟩ := h.limits
  dsimp only at *
  generalize qr.creds = records at *
  generalize qm.tickets = pooled at *
  generalize qm.drops = live at *
  subst ret main
  refine { ret := retentionLaws_withStores h.ret stores
           tables := ⟨overlays, ⟨sorted_erase sorted _, keysWithin_erase keys _⟩, form, tables⟩
           limits := ⟨arbiter, (length_erase_le _ _).trans room, queue, pool.trans full, limits⟩
           overlays := h.overlays
           drops := drops.1
           polls := drops.2
           calls := ⟨h.calls.1.sublist List.filter_sublist, fun e there => h.calls.2 e (mem_erase.1 there).1⟩
           trips := (tripsReserved_iff stores.creds).2 ⟨fun b v found => ?_, fun e there =>
             charged e (mem_erase.1 there).1⟩
           tickets := tickets
           link := ⟨fun down => ?_, h.link.2⟩
           lines := h.lines
           intact := h.intact }
  · obtain ⟨w, was, now⟩ := reserved b v found
    rw [now, charges, trips b w was]
  · have none := h.link.1 down
    rw [none] at mem
    cases mem

theorem Lawful.ends {q : Part} {slot : Nat} {c : Call} {a : Answer} (h : Lawful p)
    (mem : (slot, c) ∈ p.main.calls) (ends : Ends p q slot c a) : Lawful q := by
  have calls : q.main.calls = Table.erase p.main.calls slot := by rw [ends.main]
  have modes : q.main.modes = p.main.modes := by rw [ends.main]
  refine (h.core.ends mem ends).lawful ?_ ⟨fun e there => ?_, fun t there => ?_⟩
  · rw [ends.ret, ends.main]
    exact h.main.modes
  · rw [calls] at there
    rw [modes]
    exact h.main.recalled.1 e (mem_erase.1 there).1
  · obtain ⟨u, was, group⟩ := ends.groups t there
    rw [modes, group]
    exact h.main.recalled.2 u was

/-! ## The records at the end of a call (R21, R22) -/

theorem storesLawful_modCred (h : StoresLawful p.ret) (b : Badge) (f : Cred → Cred) (tenant : ∀ v, (f v).tenant = v.tenant)
    (sound : ∀ v, CredSound v → CredSound (f v)) : StoresLawful (p.modCred b f).ret := by
  unfold Part.modCred
  cases found : p.cred b with
  | none => exact h
  | some v => exact h.rewrite found (tenant v) (sound v (h.records b v found))

theorem chargedRecord_sound {v : Cred} (h : CredSound v) : CredSound (chargedRecord v) := by
  cases reserved : v.reserved with
  | false => rwa [chargedRecord_of_not_reserved reserved]
  | true =>
    obtain ⟨active, exhausted, charged⟩ := h.inStep
    obtain ⟨some, positive⟩ := charged reserved
    obtain ⟨k, quota⟩ := Option.ne_none_iff_exists'.1 some
    have pos : k ≠ 0 := fun zero => positive (zero ▸ quota)
    have last : k - 1 = 0 ↔ k = 1 := by bv_omega
    rw [chargedRecord_of_reserved reserved quota pos]
    refine ⟨h.count, h.grants, fun zero => ?_, fun ends => ?_, nofun⟩
    · have one : k = 1 := last.1 (Option.some.inj zero)
      dsimp only
      split
      · nofun
      next other => exact fun isActive => other ⟨one, isActive⟩
    · dsimp only at ends ⊢
      split at ends
      next one => rw [one.1]; rfl
      next => exact absurd (quota.symm.trans (exhausted ends)) fun same => pos (Option.some.inj same)

theorem chargedRecord_reserved (v : Cred) : (chargedRecord v).reserved = false := by
  unfold chargedRecord chargeCred
  split
  · split <;> rfl
  next off => exact Bool.eq_false_iff.2 off

theorem chargedRecord_suspended (v : Cred) : (chargedRecord v).state = .suspended ↔ v.state = .suspended := by
  unfold chargedRecord chargeCred
  split
  · split
    · dsimp only
      split
      next h => simp [h.2]
      next => rfl
    · rfl
  · rfl

/-- A record with its trip released. -/
def releasedRecord (v : Cred) : Cred := { v with reserved := false }

theorem releasedRecord_sound {v : Cred} (h : CredSound v) : CredSound (releasedRecord v) :=
  ⟨h.count, h.grants, h.inStep.1, h.inStep.2.1, nofun⟩

theorem releaseFor_cred (p : Part) (c : Call) (b : Badge) : (p.releaseFor c).cred b =
    if c.charge = true ∧ c.badge = some b then (p.cred b).map releasedRecord else p.cred b := by
  unfold Part.releaseFor
  split
  next b' charge badge =>
    by_cases same : b = b'
    · subst same
      rw [if_pos ⟨charge, badge⟩]
      exact (modCred_spec p b _).2.2
    · rw [if_neg (by rw [badge]; rintro ⟨-, h⟩; exact same (Option.some.inj h).symm)]
      exact modCred_cred_ne p same _
  next uncharged => rw [if_neg fun h => uncharged b h.1 h.2]

theorem storesLawful_chargeFor (h : StoresLawful p.ret) (c : Call) : StoresLawful (p.chargeFor c).ret := by
  unfold Part.chargeFor
  split
  · exact storesLawful_modCred h _ _ (fun v => (chargedRecord_holder v).2) fun v => chargedRecord_sound
  · exact h

theorem storesLawful_releaseFor (h : StoresLawful p.ret) (c : Call) : StoresLawful (p.releaseFor c).ret := by
  unfold Part.releaseFor
  split
  · exact storesLawful_modCred h _ _ (fun _ => rfl) fun _ => releasedRecord_sound
  · exact h

/-- A record rewritten where a call's trip was to be charged: its reservation goes there, and stays elsewhere. -/
theorem reserved_of_rewritten {f : Cred → Cred} (cleared : ∀ v, (f v).reserved = false) {c : Call} {b : Badge}
    {o o' : Option Cred} (rewritten : o' = if c.charge = true ∧ c.badge = some b then o.map f else o) {v : Cred}
    (found : o' = some v) : ∃ w, o = some w ∧ v.reserved = (w.reserved && !(c.charge && decide (c.badge = some b))) := by
  rw [rewritten] at found
  split at found
  next here =>
    obtain ⟨w, was, rfl⟩ := Option.map_eq_some_iff.1 found
    exact ⟨w, was, by simp [cleared, here.1, here.2]⟩
  next elsewhere =>
    refine ⟨v, found, ?_⟩
    have off : (c.charge && decide (c.badge = some b)) = false := by
      rw [Bool.eq_false_iff, ne_eq, Bool.and_eq_true, decide_eq_true_eq]
      exact elsewhere
    rw [off, Bool.not_false, Bool.and_true]

/-- Records rewritten with their states kept apart from SUSPENDED, and their tenants, entitle as before. -/
theorem entitles_of_rewritten {r' : Retention} {f : Cred → Cred}
    (suspended : ∀ v, (f v).state = .suspended → v.state = .suspended)
    (tenant : ∀ v, (f v).tenant = v.tenant) (tenants : r'.tenants = r.tenants) {P : Prop} [Decidable P]
    {o o' : Option Cred} (rewritten : o' = if P then o.map f else o) (h : ∃ v ∈ o, entitles r v) :
    ∃ v ∈ o', entitles r' v := by
  obtain ⟨v, rfl, active, live⟩ := h
  rw [rewritten]
  simp only [entitles, tenants]
  split
  · exact ⟨f v, rfl, mt (suspended v) active, (tenant v).symm ▸ live⟩
  · exact ⟨v, rfl, active, live⟩

end Sys2Proof.Laws
end

section
/-! SUPPORT. The unwinding and the assignment of a call, item by item, and that each keeps the laws (R117 to R124). -/

namespace Sys2Proof.Laws

open Sys2Proof.Machine Sys2Proof.Safety

variable {p : Part} {r r' : Retention} {m m' : Main}

/-! ## The tickets at the end of a call -/

/-- The relation of `TicketsEntitled` between two tickets of the pool. -/
def Distinct (a b : Ticket) : Prop :=
  (a.badge ≠ b.badge ∨ isPending a ≠ isPending b) ∧ (a.state.link = none ∨ a.state.link ≠ b.state.link)

theorem isPending_iff (t : Ticket) : isPending t = true ↔ ∃ l, t.state = .pending l := by
  unfold isPending
  cases t.state <;> simp [TicketState.link]

theorem isPending_of_state {t t' : Ticket} (same : t'.state = t.state) : isPending t' = isPending t := by
  unfold isPending
  rw [same]

theorem Distinct.symm {a b : Ticket} (h : Distinct a b) : Distinct b a := by
  refine ⟨h.1.imp Ne.symm Ne.symm, ?_⟩
  rcases h.2 with none | other
  · by_cases same : b.state.link = a.state.link
    · exact .inl (same.trans none)
    · exact .inr same
  · exact .inr other.symm

section
variable (tables : MainTables m) {slot : Nat} {c : Call} (mem : (slot, c) ∈ m.calls)
  (calls : m'.calls = Table.erase m.calls slot)
include tables mem calls

/-- A ticket that is not linked to the call that ends is still answered by its own. -/
theorem linkAnswered_of_erased {t : Ticket} (answered : linkAnswered m t)
    (other : t.state.link ≠ some ⟨c.number, slot⟩) : linkAnswered m' t := by
  intro l link
  obtain ⟨d, found, number, badge⟩ := answered l link
  refine ⟨d, ?_, number, badge⟩
  have elsewhere : l.slot ≠ slot := fun same => by
    rw [same, lookup_of_mem tables.2.1.1 mem] at found
    obtain rfl : c = d := Option.some.inj found
    exact other (by rw [number, ← same]; exact link)
  rw [calls, lookup_erase_ne _ _ _ elsewhere]
  exact found

/-- The tickets that the end of a call leaves: each is one that was not linked to the call, or has lost its link. -/
theorem ticketsEntitled_ended (h : TicketsEntitled r m) {f : Ticket → Option Ticket}
    (entitled : ∀ b : Badge, (∃ v ∈ credAt r b, entitles r v) → ∃ v ∈ credAt r' b, entitles r' v)
    (tickets : m'.tickets = m.tickets.filterMap f)
    (each : ∀ t ∈ m.tickets, ∀ t', f t = some t' → t'.badge = t.badge ∧
      (t'.state.link = none ∨ (t' = t ∧ t.state.link ≠ some ⟨c.number, slot⟩)))
    (pairs : ∀ a ∈ m.tickets, ∀ b ∈ m.tickets, Distinct a b → ∀ a', f a = some a' → ∀ b', f b = some b' →
      Distinct a' b') : TicketsEntitled r' m' := by
  rw [TicketsEntitled, tickets]
  refine ⟨fun t' there => ?_, ?_⟩
  · obtain ⟨t, was, now⟩ := List.mem_filterMap.1 there
    obtain ⟨badge, link⟩ := each t was t' now
    obtain ⟨holder, answered⟩ := h.1 t was
    refine ⟨badge ▸ entitled t.badge holder, ?_⟩
    rcases link with cut | ⟨rfl, other⟩
    · intro l linked
      rw [cut] at linked
      cases linked
    · exact linkAnswered_of_erased tables mem calls answered other
  · exact List.pairwise_filterMap.2 (h.2.imp_of_mem fun ma mb distinct => pairs _ ma _ mb distinct)

end

/-! ## The unwinding (R121) -/

theorem unwoundTicket_spec {now : Nat} {l : CallLink} {t t' : Ticket} (kept : unwoundTicket now l t = some t') :
    t'.badge = t.badge ∧ t'.group = t.group ∧ isPending t' = isPending t ∧
      (t'.state.link = none ∨ (t' = t ∧ t.state.link ≠ some l)) := by
  unfold unwoundTicket at kept
  split at kept
  · split at kept
    · cases kept
    next issued =>
      obtain rfl := Option.some.inj kept
      exact ⟨rfl, rfl, isPending_of_state issued.symm, .inl rfl⟩
    next claimed =>
      split at kept
      · cases kept
      · obtain rfl := Option.some.inj kept
        exact ⟨rfl, rfl, by simp [isPending, claimed, TicketState.link], .inl rfl⟩
  next unlinked =>
    obtain rfl := Option.some.inj kept
    exact ⟨rfl, rfl, rfl, .inr ⟨rfl, by simpa [Ticket.linkedTo] using unlinked⟩⟩

theorem Distinct.of_kept {a b a' b' : Ticket} (h : Distinct a b) (badgeA : a'.badge = a.badge)
    (badgeB : b'.badge = b.badge) (pendingA : isPending a' = isPending a) (pendingB : isPending b' = isPending b)
    (linkA : a'.state.link = none ∨ a' = a) (linkB : b'.state.link = none ∨ b' = b) : Distinct a' b' := by
  refine ⟨by rw [badgeA, badgeB, pendingA, pendingB]; exact h.1, ?_⟩
  rcases linkA with cut | rfl
  · exact .inl cut
  · rcases linkB with cut | rfl
    · by_cases free : a'.state.link = none
      · exact .inl free
      · exact .inr (by rw [cut]; exact free)
    · exact h.2

/-- Telling a drop reads and writes the drops alone. -/
theorem tell_drops {q : Part} (same : q.main.drops = p.main.drops) (i : Nat) (a : Answer) :
    (q.tell i a).main.drops = (p.tell i a).main.drops := by
  have read : q.drop i = p.drop i := by rw [Part.drop, same, Part.drop]
  rw [tell_spec, tell_spec, read]
  split
  · rw [setDrop_main, setDrop_main, same]
  · exact same

section
variable (p) (slot : Nat) (c : Call) (why : NoService)

theorem unwind_ret : (p.unwind slot c why).ret = (p.releaseFor c).ret := by
  unfold Part.unwind
  dsimp only
  rw [free_ret, tell_ret, unwindTicket_ret]

/-- The main well after an unwinding: the ticket item, the answer, the slot. -/
theorem unwind_main : (p.unwind slot c why).main = { p.main with
    tickets := p.main.tickets.filterMap (unwoundTicket p.main.now ⟨c.number, slot⟩)
    drops := (p.tell c.drop (.noService why)).main.drops
    calls := Table.erase p.main.calls slot } := by
  obtain ⟨released, -⟩ := releaseFor_frame p c
  unfold Part.unwind
  dsimp only
  rw [free_main, tell_main, tell_drops (p := p), unwindTicket_main, released]
  rw [unwindTicket_main, released]

theorem unwind_cred (b : Badge) : (p.unwind slot c why).cred b =
    if c.charge = true ∧ c.badge = some b then (p.cred b).map releasedRecord else p.cred b := by
  rw [← releaseFor_cred, Part.cred, unwind_ret, Part.cred]

theorem unwind_drop (i : Nat) : (p.unwind slot c why).drop i = (p.tell c.drop (.noService why)).drop i := by
  rw [Part.drop, unwind_main, Part.drop]

end

variable {slot : Nat} {c : Call}

theorem CoreLawful.ends_unwind (h : CoreLawful p) (mem : (slot, c) ∈ p.main.calls) (why : NoService) :
    Ends p (p.unwind slot c why) slot c (.noService why) := by
  obtain ⟨ret, main⟩ := unwind_frame p slot c why
  have tickets : (p.unwind slot c why).main.tickets =
      p.main.tickets.filterMap (unwoundTicket p.main.now ⟨c.number, slot⟩) := by rw [unwind_main]
  have rewritten := unwind_cred p slot c why
  refine { ret, main
           stores := by rw [unwind_ret]; exact storesLawful_releaseFor h.stores c
           reserved := fun b v found => reserved_of_rewritten (fun _ => rfl) (rewritten b) found
           form := by rw [unwind_main]; exact dropsForm_tell h.tables.2.2.1 c.drop _
           others := fun i other => by rw [unwind_drop, tell_drop_ne _ other]
           up := fun up => by rw [unwind_drop, tell_drop_up _ up]; exact ⟨rfl, rfl, rfl⟩
           down := fun down => by rw [unwind_drop, tell_of_not_up _ down]
           pool := tickets ▸ List.length_filterMap_le _ _
           tickets := ?tickets
           groups := fun t' there => ?groups }
  case groups =>
    obtain ⟨t, was, kept⟩ := List.mem_filterMap.1 (tickets ▸ there)
    exact ⟨t, was, (unwoundTicket_spec kept).2.1⟩
  case tickets =>
    refine ticketsEntitled_ended h.tables mem (by rw [main]) h.tickets (fun b holder => ?_) tickets
      (fun t _ t' kept => ?_) fun a _ b _ distinct a' keptA b' keptB => ?_
    · exact entitles_of_rewritten (f := releasedRecord) (fun _ => id) (fun _ => rfl) (by rw [ret]) (rewritten b) holder
    · obtain ⟨badge, -, -, link⟩ := unwoundTicket_spec kept
      exact ⟨badge, link⟩
    · obtain ⟨badgeA, -, pendingA, linkA⟩ := unwoundTicket_spec keptA
      obtain ⟨badgeB, -, pendingB, linkB⟩ := unwoundTicket_spec keptB
      exact distinct.of_kept badgeA badgeB pendingA pendingB (linkA.imp_right And.left) (linkB.imp_right And.left)

theorem CoreLawful.unwind (h : CoreLawful p) (mem : (slot, c) ∈ p.main.calls) (why : NoService) :
    CoreLawful (p.unwind slot c why) := h.ends mem (h.ends_unwind mem why)

/-! ## The assignment (R117) -/

/-- What an assignment makes of each ticket of the pool: the ticket linked to the call is issued, honoured or given up,
and an issued one makes the older ticket of its badge leave. -/
def assignedTicket (l : CallLink) (linked : Ticket) (expiry : Option Nat) (t : Ticket) : Option Ticket :=
  match expiry with
  | some e =>
    if t.state.isIssued && decide (t.badge = linked.badge) then none
    else some (if t.state.link = some l then { t with state := .issued e } else t)
  | none => if t.state.link = some l then none else some t

theorem assignedTicket_none (l : CallLink) (linked : Ticket) (tickets : List Ticket) :
    tickets.filterMap (assignedTicket l linked none) = tickets.filter fun t => decide (t.state.link ≠ some l) := by
  rw [← List.filterMap_eq_filter]
  refine List.filterMap_congr fun t _ => ?_
  unfold assignedTicket
  by_cases same : t.state.link = some l <;> simp [same, Option.guard]

theorem assignedTicket_some (l : CallLink) (linked : Ticket) (e : Nat) (tickets : List Ticket) :
    tickets.filterMap (assignedTicket l linked (some e)) =
      (tickets.filter fun t => !(t.state.isIssued && decide (t.badge = linked.badge))).map fun t =>
        if t.state.link = some l then { t with state := .issued e } else t := by
  rw [← List.filterMap_eq_map, List.filterMap_filter]
  refine List.filterMap_congr fun t _ => ?_
  unfold assignedTicket
  cases t.state.isIssued && decide (t.badge = linked.badge) <;> rfl

/-- The ticket item of an assignment, as one pass over the pool. -/
theorem assignTicket_pass {badge : Option Badge} {l : CallLink} {linked : Ticket} (found : p.linkedTicket l = some linked) :
    ∃ expiry, (p.assignTicket badge l).main.tickets = p.main.tickets.filterMap (assignedTicket l linked expiry) ∧
      (expiry ≠ none → isPending linked = true) := by
  have link : linked.state.link = some l := by simpa [Ticket.linkedTo] using List.find?_some found
  cases state : linked.state with
  | pending l' =>
    cases entitled : p.entitled badge with
    | true =>
      exact ⟨_, (assignTicket_issues found state entitled).trans (assignedTicket_some l linked _ _).symm,
        fun _ => (isPending_iff linked).2 ⟨l', state⟩⟩
    | false =>
      exact ⟨none, (assignTicket_drops found state entitled).trans (assignedTicket_none l linked _).symm, (absurd rfl ·)⟩
  | issued e => rw [state] at link; cases link
  | claimed e l' =>
    exact ⟨none, (assignTicket_claimed found state).trans (assignedTicket_none l linked _).symm, (absurd rfl ·)⟩

theorem assignedTicket_spec {l : CallLink} {linked : Ticket} {expiry : Option Nat} {t t' : Ticket}
    (kept : assignedTicket l linked expiry t = some t') : t'.badge = t.badge ∧ t'.group = t.group ∧
      (expiry ≠ none → t.badge = linked.badge → t.state.isIssued = false) ∧
      ((t' = t ∧ t.state.link ≠ some l) ∨ (t.state.link = some l ∧ expiry ≠ none ∧ ∃ e, t'.state = .issued e)) := by
  unfold assignedTicket at kept
  split at kept
  next e =>
    split at kept
    · cases kept
    next stays =>
      have older : t.badge = linked.badge → t.state.isIssued = false :=
        fun same => by simpa [same] using stays
      obtain rfl := Option.some.inj kept
      split
      next linked => exact ⟨rfl, rfl, fun _ => older, .inr ⟨linked, nofun, e, rfl⟩⟩
      next other => exact ⟨rfl, rfl, fun _ => older, .inl ⟨rfl, other⟩⟩
  next =>
    split at kept
    · cases kept
    next other =>
      obtain rfl := Option.some.inj kept
      exact ⟨rfl, rfl, (absurd rfl ·), .inl ⟨rfl, other⟩⟩

/-- A ticket of the linked one's badge, other than it, is ISSUED: a PENDING one would be the badge's second, and a CLAIMED
one would be linked to a second call of the badge. -/
theorem isIssued_of_same_badge (h : CoreLawful p) {linked t : Ticket} {l : CallLink} (there : linked ∈ p.main.tickets)
    (link : linked.state.link = some l) (pending : isPending linked = true) (mem : t ∈ p.main.tickets)
    (other : t.state.link ≠ some l) (distinct : Distinct linked t) (badge : t.badge = linked.badge) :
    t.state.isIssued = true := by
  have notPending : isPending t ≠ true := fun same =>
    distinct.1.elim (fun ne => ne badge.symm) fun ne => ne (pending.trans same.symm)
  cases state : t.state with
  | pending l' => exact absurd ((isPending_iff t).2 ⟨l', state⟩) notPending
  | issued e => rfl
  | claimed e l' =>
    have link' : t.state.link = some l' := by rw [state]; rfl
    obtain ⟨c, foundC, numberC, badgeC⟩ := (h.tickets.1 linked there).2 l link
    obtain ⟨d, foundD, numberD, badgeD⟩ := (h.tickets.1 t mem).2 l' link'
    have slots : l.slot ≠ l'.slot := fun same => by
      rw [← same, foundC] at foundD
      obtain rfl : c = d := Option.some.inj foundD
      refine other (link'.trans ?_)
      obtain ⟨n, k⟩ := l
      obtain ⟨n', k'⟩ := l'
      dsimp only at numberC numberD same
      rw [← numberC, ← numberD, same]
    rcases (callsApart_of_ne h.tables h.calls (mem_of_lookup foundC) (mem_of_lookup foundD) slots).2.2 with none | ne
    · rw [none] at badgeC; cases badgeC
    · exact absurd (badgeC.trans (badge ▸ badgeD.symm)) ne

/-- The one ticket linked to the call that is assigned, issued, is distinct from each other ticket that stays. -/
theorem CoreLawful.distinct_issued (h : CoreLawful p) {linked a b a' : Ticket} {l : CallLink} {e : Nat}
    (there : linked ∈ p.main.tickets) (link : linked.state.link = some l) (pending : isPending linked = true)
    (memA : a ∈ p.main.tickets) (memB : b ∈ p.main.tickets) (linkA : a.state.link = some l) (badgeA : a'.badge = a.badge)
    (issued : a'.state = .issued e) (linkB : b.state.link ≠ some l)
    (stays : b.badge = linked.badge → b.state.isIssued = false) : Distinct a' b := by
  have symm : Std.Symm Distinct := ⟨fun _ _ => Distinct.symm⟩
  have distinct := fun a ma b mb ne => h.tickets.2.forall (R := Distinct) (a := a) ma (b := b) mb ne
  obtain rfl : a = linked := by
    by_contra other
    rcases (distinct a memA linked there other).2 with none | ne
    · rw [none] at linkA; cases linkA
    · exact ne (linkA.trans link.symm)
  refine ⟨.inl fun same => ?_, .inl (by rw [issued]; rfl)⟩
  have badge : b.badge = a.badge := (badgeA ▸ same).symm
  have free := isIssued_of_same_badge h there link pending memB linkB
    (distinct a memA b memB fun eq => linkB (eq ▸ linkA)) badge
  rw [stays badge] at free
  cases free

theorem CoreLawful.distinct_assigned (h : CoreLawful p) {linked a b a' b' : Ticket} {l : CallLink} {expiry : Option Nat}
    (there : linked ∈ p.main.tickets) (link : linked.state.link = some l)
    (pending : expiry ≠ none → isPending linked = true) (memA : a ∈ p.main.tickets) (memB : b ∈ p.main.tickets)
    (distinct : Distinct a b) (keptA : assignedTicket l linked expiry a = some a')
    (keptB : assignedTicket l linked expiry b = some b') : Distinct a' b' := by
  obtain ⟨badgeA, -, staysA, caseA⟩ := assignedTicket_spec keptA
  obtain ⟨badgeB, -, staysB, caseB⟩ := assignedTicket_spec keptB
  rcases caseA with ⟨rfl, otherA⟩ | ⟨linkA, some, e, issuedA⟩
  · rcases caseB with ⟨rfl, -⟩ | ⟨linkB, some, e, issuedB⟩
    · exact distinct
    · exact (h.distinct_issued there link (pending some) memB memA linkB badgeB issuedB otherA (staysA some)).symm
  · rcases caseB with ⟨rfl, otherB⟩ | ⟨linkB, -⟩
    · exact h.distinct_issued there link (pending some) memA memB linkA badgeA issuedA otherB (staysB some)
    · rcases distinct.2 with none | ne
      · rw [none] at linkA; cases linkA
      · exact absurd (linkA.trans linkB.symm) ne

theorem CoreLawful.ends_assignCall (h : CoreLawful p) (mem : (slot, c) ∈ p.main.calls) (car : Byte) :
    Ends p (p.assignCall slot c car) slot c (.granted c.group car c.firstDest c.finalDest) := by
  obtain ⟨ret, main⟩ := assignCall_frame p slot c car
  have rewritten : ∀ b, (p.assignCall slot c car).cred b =
      if c.charge = true ∧ c.badge = some b then (p.cred b).map chargedRecord else p.cred b :=
    fun b => (assignCall_cred p slot c car b).trans (chargeFor_cred p c b)
  have form : DropsForm (settledPart p slot c).main.drops := by rw [settledPart_main]; exact h.tables.2.2.1
  have calls : (p.assignCall slot c car).main.calls = Table.erase p.main.calls slot := by rw [main]
  have pass : ∃ f : Ticket → Option Ticket, (p.assignCall slot c car).main.tickets = p.main.tickets.filterMap f ∧
      (∀ t ∈ p.main.tickets, ∀ t', f t = some t' → t'.badge = t.badge ∧
        (t'.state.link = none ∨ (t' = t ∧ t.state.link ≠ some ⟨c.number, slot⟩))) ∧
      (∀ t ∈ p.main.tickets, ∀ t', f t = some t' → t'.group = t.group) ∧
      ∀ a ∈ p.main.tickets, ∀ b ∈ p.main.tickets, Distinct a b → ∀ a', f a = some a' → ∀ b', f b = some b' →
        Distinct a' b' := by
    rw [assignCall_tickets, settledPart]
    cases found : p.linkedTicket ⟨c.number, slot⟩ with
    | none =>
      refine ⟨some, ?_, fun t there t' kept => ?_, fun t _ t' kept => ?_,
        fun a _ b _ distinct a' keptA b' keptB => ?_⟩
      · rw [assignTicket_unlinked ((linkedTicket_chargeFor p c _).trans found), chargeFor_main, List.filterMap_some]
      · obtain rfl := Option.some.inj kept
        have unlinked := List.find?_eq_none.1 found t there
        exact ⟨rfl, .inr ⟨rfl, by simpa [Ticket.linkedTo] using unlinked⟩⟩
      · rw [Option.some.inj kept]
      · obtain rfl := Option.some.inj keptA
        obtain rfl := Option.some.inj keptB
        exact distinct
    | some linked =>
      have there : linked ∈ p.main.tickets := List.mem_of_find?_eq_some found
      have link : linked.state.link = some ⟨c.number, slot⟩ := by
        simpa [Ticket.linkedTo] using List.find?_some found
      obtain ⟨expiry, tickets, pending⟩ :=
        assignTicket_pass (badge := c.badge) ((linkedTicket_chargeFor p c _).trans found)
      rw [chargeFor_main] at tickets
      refine ⟨_, tickets, fun t _ t' kept => ?_, fun t _ t' kept => (assignedTicket_spec kept).2.1,
        fun a memA b memB distinct a' keptA b' keptB => ?_⟩
      · obtain ⟨badge, -, -, link⟩ := assignedTicket_spec kept
        refine ⟨badge, ?_⟩
        rcases link with same | ⟨-, -, e, issued⟩
        · exact .inr same
        · exact .inl (by rw [issued]; rfl)
      · exact h.distinct_assigned there link pending memA memB distinct keptA keptB
  obtain ⟨f, tickets, each, group, pairs⟩ := pass
  refine { ret, main
           stores := by rw [assignCall_ret]; exact storesLawful_chargeFor h.stores c
           reserved := fun b v found => reserved_of_rewritten chargedRecord_reserved (rewritten b) found
           form := dropsForm_tell (dropsForm_remember form c car) _ _
           others := fun i other => assignCall_drop_ne p slot c car other
           up := fun up => by rw [assignCall_drop_up p slot car up]; exact ⟨rfl, rfl, rfl⟩
           down := fun down => assignCall_drop_of_not_up p slot car down _
           pool := tickets ▸ List.length_filterMap_le _ _
           tickets := ticketsEntitled_ended h.tables mem calls h.tickets (fun b holder => ?holder) tickets each pairs
           groups := fun t' there => ?groups }
  case groups =>
    obtain ⟨t, was, kept⟩ := List.mem_filterMap.1 (tickets ▸ there)
    exact ⟨t, was, group t was t' kept⟩
  case holder =>
    exact entitles_of_rewritten (fun v => (chargedRecord_suspended v).1) (fun v => (chargedRecord_holder v).2)
      (by rw [ret]) (rewritten b) holder

theorem CoreLawful.assignCall (h : CoreLawful p) (mem : (slot, c) ∈ p.main.calls) (car : Byte) :
    CoreLawful (p.assignCall slot c car) := h.ends mem (h.ends_assignCall mem car)

end Sys2Proof.Laws
end

section
/-! SUPPORT. The dispatcher's frames, the timers of calls, tickets and the link (chapters 6 and 7): each keeps the laws. -/

namespace Sys2Proof.Laws

open Sys2Proof.Machine Sys2Proof.Safety

variable {p : Part}

/-! ## The endings of one call -/

theorem Lawful.unwind (h : Lawful p) {slot : Nat} {c : Call} (mem : (slot, c) ∈ p.main.calls) (why : NoService) :
    Lawful (p.unwind slot c why) := h.ends mem (h.core.ends_unwind mem why)

theorem Lawful.assigned (h : Lawful p) (number : Half) (car : Byte) : Lawful (p.assigned number car) := by
  unfold Part.assigned
  split
  next found =>
    have mem := (callNumbered_some p found).1
    exact h.ends mem (h.core.ends_assignCall mem car)
  next => exact h.send _

theorem Lawful.declined (h : Lawful p) (number : Half) (code : Byte) : Lawful (p.declined number code) := by
  unfold Part.declined
  split
  next found => exact h.unwind (callNumbered_some p found).1 _
  next => exact h

theorem Lawful.timeout (h : Lawful p) (number : Half) : Lawful (p.timeout number) := by
  unfold Part.timeout
  split
  next found =>
    split
    · exact h.unwind (callNumbered_some p found).1 _
    · exact h
  next => exact h

/-! ## The dispatcher link -/

/-- The first call of a sorted table ended, the others are left. -/
theorem erase_head {e : Nat × Call} {l : Table Call} (sorted : Table.sorted (e :: l)) : Table.erase (e :: l) e.1 = l := by
  rw [Table.erase, List.filter_cons_of_neg (by simp)]
  exact List.filter_eq_self.2 fun d mem => decide_eq_true (Nat.ne_of_gt ((List.pairwise_cons.1 sorted).1 d mem))

/-- The calls in flight, unwound one after the other, leave a lawful part without calls. -/
theorem Lawful.unwindAll (l : Table Call) (h : Lawful p) (calls : p.main.calls = l) (why : NoService) :
    Lawful (l.foldl (fun q e => q.unwind e.1 e.2 why) p) ∧
      (l.foldl (fun q e => q.unwind e.1 e.2 why) p).main.calls = [] := by
  induction l generalizing p with
  | nil => exact ⟨h, calls⟩
  | cons e l ih =>
    have mem : (e.1, e.2) ∈ p.main.calls := by rw [calls]; exact List.mem_cons_self
    have sorted := h.main.tables.2.1.1
    rw [calls] at sorted
    refine ih (h.unwind mem why) ?_
    rw [(unwind_frame p e.1 e.2 why).2, calls]
    exact erase_head sorted

theorem Lawful.linkDown (h : Lawful p) : Lawful p.linkDown := by
  have ended : ∃ q, (if p.main.link = .up then p.dropCalls else p) = q ∧ Lawful q ∧ q.main.calls = [] := by
    split
    · obtain ⟨lawful, calls⟩ := h.unwindAll p.main.calls rfl .dispatcherDown
      exact ⟨_, rfl, lawful, calls⟩
    next down => exact ⟨p, rfl, h, h.main.link.1 down⟩
  obtain ⟨q, done, lawful, calls⟩ := ended
  unfold Part.linkDown
  rw [done]
  exact ⟨lawful.ret, { lawful.main with
    link := ⟨fun _ => calls, ⟨fun _ => rfl, fun _ => rfl⟩, fun _ => ⟨rfl, rfl⟩, nofun⟩ }, lawful.intact⟩

theorem Lawful.livenessEnd (h : Lawful p) : Lawful p.livenessEnd := by
  unfold Part.livenessEnd
  split
  · exact h
  · split
    · exact h.linkDown
    · exact h

/-- The link in a state other than DOWN, its liveness timer running. -/
theorem Lawful.linked (h : Lawful p) {state : LinkState} {run : Nat} (groups : Set8) (timer : Nat) (live : state ≠ .down)
    (empty : state ≠ .up → p.main.calls = []) (settled : state = .up → run = 0) :
    Lawful ⟨p.ret, { p.main with
      inService := groups, liveness := some timer, link := state, aliveRun := run }⟩ :=
  ⟨h.ret, { h.main with
    link := ⟨empty, ⟨fun down => absurd down live, nofun⟩, fun down => absurd down live, settled⟩ }, h.intact⟩

theorem Lawful.alive (h : Lawful p) (groups : Set8) : Lawful (p.alive groups) := by
  have timed := fun state run => h.linked (state := state) (run := run) groups
    (p.main.now + p.ret.params.livenessTimeout)
  have qualified : p.main.link ≠ .up → ∀ run, Lawful (Part.qualifyLink ⟨p.ret, { p.main with
      inService := groups, liveness := some (p.main.now + p.ret.params.livenessTimeout) }⟩ run) := fun down run => by
    unfold Part.qualifyLink
    split
    · exact (timed .up 0 nofun (fun ne => absurd rfl ne) fun _ => rfl).noticeAll
    · exact timed .qualifying run nofun (fun _ => h.main.link.1 down) nofun
  unfold Part.alive
  dsimp only
  split
  next down => exact qualified (by rw [down]; nofun) _
  next qualifying => exact qualified (by rw [qualifying]; nofun) _
  next up =>
    exact timed p.main.link p.main.aliveRun (by rw [up]; nofun) (absurd up ·) h.main.link.2.2.2

theorem Lawful.frameSent (h : Lawful p) : Lawful (p.withSendQueue p.main.sendQueue.tail) := by
  obtain ⟨-, -, queue, -⟩ := h.main.limits
  exact h.withSendQueue (by rw [List.length_tail]; omega)

/-! ## The tickets -/

theorem Lawful.removeTickets (h : Lawful p) (gone : Ticket → Bool) : Lawful (p.removeTickets gone) := by
  obtain ⟨arbiter, calls, queue, pool, limits⟩ := h.main.limits
  have sub : (p.main.tickets.filter fun t => !gone t).Sublist p.main.tickets := List.filter_sublist
  exact ⟨h.ret, { h.main with
    limits := ⟨arbiter, calls, queue, sub.length_le.trans pool, limits⟩
    tickets := ticketsEntitled_sublist h.main.tickets rfl sub fun _ _ c found allowed => ⟨c, found, allowed⟩
    recalled := ⟨h.main.recalled.1, fun t mem => h.main.recalled.2 t (sub.subset mem)⟩ }, h.intact⟩

theorem Lawful.expireTicket (h : Lawful p) (b : Badge) : Lawful (p.expireTicket b) := h.removeTickets _

theorem Lawful.takeTicketRead (h : Lawful p) (q : TicketQuery) : Lawful (takeTicketRead q p).part := by
  unfold Machine.takeTicketRead
  split
  · split
    · exact h
    · dsimp only; split <;> exact h
  · split
    · exact h
    · dsimp only; split <;> exact h

theorem Lawful.takeCallRead (h : Lawful p) (q : CallQuery) : Lawful (takeCallRead q p).part := by
  unfold Machine.takeCallRead
  split
  · split
    · exact h
    · split <;> exact h
  · split
    · exact h
    · split <;> exact h

end Sys2Proof.Laws
end

section
/-! SUPPORT. The Service Mode Unit (chapter 9): a recomputing of groups keeps the laws, and leaves each group it treats with
the mode its latch and demands give. -/

namespace Sys2Proof.Laws

open Sys2Proof.Machine Sys2Proof.Safety

variable {p q : Part}

/-! ## What demands and modes read -/

theorem holds_congr (lines : q.ret.lines = p.ret.lines) (status : q.ret.lineStatus = p.ret.lineStatus) {g : Nat}
    (marks : q.marksOf g = p.marksOf g) (k : Mode) : q.holds g k = p.holds g k := by
  have line : ∀ n, q.lineHolds n g k = p.lineHolds n g k := fun n => by
    rw [Part.lineHolds, Part.lineDemand, Part.lineConfig, lines, status]
    rfl
  rw [Part.holds, marks, Part.holds]
  simp only [line]

theorem effectiveMode_congr {g : Nat} (latch : inSet q.ret.latches g = inSet p.ret.latches g)
    (holds : ∀ k, q.holds g k = p.holds g k) : q.effectiveMode g = p.effectiveMode g := by
  rw [Part.effectiveMode, latch, holds, holds, holds, Part.effectiveMode]

/-- The law of one group's mode: the held mode is the effective one, and a RECALL demand has set the latch. -/
def Settled (p : Part) (g : Nat) : Prop :=
  p.mode g = p.effectiveMode g ∧ (p.holds g .recalled = true → inSet p.ret.latches g = true)

theorem modesHeld_iff : ModesHeld p.ret p.main ↔ ∀ g < 8, Settled p g := by
  simp only [ModesHeld, mem_eight]
  rfl

theorem Settled.congr {g : Nat} (h : Settled p g) (mode : q.mode g = p.mode g)
    (latch : inSet q.ret.latches g = inSet p.ret.latches g) (holds : ∀ k, q.holds g k = p.holds g k) : Settled q g := by
  refine ⟨?_, fun held => ?_⟩
  · rw [mode, effectiveMode_congr latch holds]
    exact h.1
  · rw [holds] at held
    rw [latch]
    exact h.2 held

/-! ## Calls cancelled in turn (R124) -/

theorem cancelFold_calls (p : Part) (l : List (Nat × Call)) : (l.foldl Part.cancelCall p).main.calls =
    l.foldl (fun t e => Table.erase t e.1) p.main.calls := by
  induction l generalizing p with
  | nil => rfl
  | cons e l ih =>
    rw [List.foldl_cons, ih, (cancelCall_frame p e).2]
    rfl

/-- Taking the keys of a list out of a table leaves the entries of the other keys. -/
theorem foldl_erase_eq_filter {α : Type} (l : List (Nat × α)) (t : Table α) :
    l.foldl (fun u e => Table.erase u e.1) t = t.filter fun e => decide (∀ d ∈ l, e.1 ≠ d.1) := by
  induction l generalizing t with
  | nil => simp
  | cons d l ih =>
    rw [List.foldl_cons, ih, Table.erase, List.filter_filter]
    refine List.filter_congr fun e _ => ?_
    rw [← Bool.decide_and, decide_eq_decide, List.forall_mem_cons, and_comm]

/-- Taking out the entries of a sorted table that meet a test leaves those that do not. -/
theorem foldl_erase_filter {α : Type} {t : Table α} (sorted : Table.sorted t) (test : Nat × α → Bool) :
    (t.filter test).foldl (fun u e => Table.erase u e.1) t = t.filter fun e => !test e := by
  rw [foldl_erase_eq_filter]
  refine List.filter_congr fun e mem => ?_
  rw [Bool.eq_iff_iff, decide_eq_true_iff, Bool.not_eq_true', ← Bool.not_eq_true]
  constructor
  · exact fun apart meets => apart e (List.mem_filter.2 ⟨mem, meets⟩) rfl
  · intro fails d there same
    obtain ⟨there, meets⟩ := List.mem_filter.1 there
    have value := lookup_of_mem sorted there
    rw [← same, lookup_of_mem sorted mem] at value
    obtain rfl : e = d := Prod.ext same (Option.some.inj value)
    exact fails meets

theorem CoreLawful.cancelCall (h : CoreLawful p) {e : Nat × Call} (mem : e ∈ p.main.calls) :
    CoreLawful (p.cancelCall e) := by
  refine (h.send (.callCancel e.2.number)).unwind (slot := e.1) (c := e.2) ?_ _
  rw [send_main]
  exact mem

theorem cancelCall_groups (h : CoreLawful p) {e : Nat × Call} (mem : e ∈ p.main.calls) :
    ∀ t ∈ (p.cancelCall e).main.tickets, ∃ u ∈ p.main.tickets, t.group = u.group := by
  have mem' : (e.1, e.2) ∈ (p.send (.callCancel e.2.number)).main.calls := by rw [send_main]; exact mem
  have groups := ((h.send (.callCancel e.2.number)).ends_unwind mem' .cancelled).groups
  rw [send_main] at groups
  exact groups

theorem CoreLawful.cancelFold (h : CoreLawful p) {l : List (Nat × Call)} (there : ∀ e ∈ l, e ∈ p.main.calls)
    (keys : l.Pairwise fun a b => a.1 < b.1) : CoreLawful (l.foldl Part.cancelCall p) ∧
      ∀ t ∈ (l.foldl Part.cancelCall p).main.tickets, ∃ u ∈ p.main.tickets, t.group = u.group := by
  induction l generalizing p with
  | nil => exact ⟨h, fun t mem => ⟨t, mem, rfl⟩⟩
  | cons e l ih =>
    obtain ⟨first, keys⟩ := List.pairwise_cons.1 keys
    have mem := there e List.mem_cons_self
    have calls : (p.cancelCall e).main.calls = Table.erase p.main.calls e.1 := by rw [(cancelCall_frame p e).2]
    obtain ⟨lawful, groups⟩ := ih (h.cancelCall mem) (fun d later => by
      rw [calls]
      exact mem_erase.2 ⟨there d (List.mem_cons_of_mem e later), Nat.ne_of_gt (first d later)⟩) keys
    refine ⟨lawful, fun t last => ?_⟩
    obtain ⟨u, mid, same⟩ := groups t last
    obtain ⟨v, was, same'⟩ := cancelCall_groups h mem u mid
    exact ⟨v, was, same.trans same'⟩

/-! ## A change of mode (R179) -/

theorem CoreLawful.putMode (h : CoreLawful p) {g : Nat} (place : g < 8) (k : Mode) : CoreLawful (p.putMode g k) := by
  obtain ⟨overlays, calls, drops, links, lines, marks, canonical, keys⟩ := h.tables
  exact { h with tables := ⟨overlays, calls, drops, links, lines, marks, canonical_set canonical g k,
    keysWithin_set keys ⟨Nat.zero_le _, Nat.le_of_lt_succ place⟩ _ _⟩ }

theorem CoreLawful.removeTickets (h : CoreLawful p) (gone : Ticket → Bool) : CoreLawful (p.removeTickets gone) := by
  obtain ⟨arbiter, calls, queue, pool, limits⟩ := h.limits
  have sub : (p.main.tickets.filter fun t => !gone t).Sublist p.main.tickets := List.filter_sublist
  exact { h with
    limits := ⟨arbiter, calls, queue, sub.length_le.trans pool, limits⟩
    tickets := ticketsEntitled_sublist h.tickets rfl sub fun _ _ c found allowed => ⟨c, found, allowed⟩ }

/-- What a change of mode leaves of calls and tickets: those of a group that enters RECALL are gone. -/
structure ModeChanged (p q : Part) (g : Nat) (k : Mode) : Prop where
  core : CoreLawful q
  modes : q.main.modes = Table.set .normal p.main.modes g k
  calls : ∀ e ∈ q.main.calls, e ∈ p.main.calls ∧ (k = .recalled → e.2.group ≠ byte g)
  tickets : ∀ t ∈ q.main.tickets, (∃ u ∈ p.main.tickets, t.group = u.group) ∧ (k = .recalled → t.group ≠ byte g)

theorem CoreLawful.changeMode (h : CoreLawful p) {g : Nat} (place : g < 8) (k : Mode) :
    ModeChanged p (p.changeMode g k) g k := by
  have told : CoreLawful ((p.putMode g k).notice g) := (h.putMode place k).send _
  have frame := (changeMode_frame p g k).2
  have main : ((p.putMode g k).notice g).main = { p.main with
      modes := Table.set .normal p.main.modes g k, sendQueue := ((p.putMode g k).notice g).main.sendQueue } := by
    rw [notice_main, putMode_main]
  refine ⟨?core, by rw [frame], ?calls, ?tickets⟩
  all_goals unfold Part.changeMode; dsimp only; split
  case calls.isFalse other => exact fun e mem => ⟨by rw [main] at mem; exact mem, fun same => absurd same other⟩
  case tickets.isFalse other =>
    exact fun t mem => ⟨⟨t, by rw [main] at mem; exact mem, rfl⟩, fun same => absurd same other⟩
  case core.isFalse => exact told
  case core.isTrue =>
    exact (told.cancelFold (fun e mem => (List.mem_filter.1 mem).1) (told.tables.2.1.1.filter _)).1.removeTickets _
  case calls.isTrue =>
    intro e mem
    rw [Part.removeGroupTickets, removeTickets_main, Part.cancelCalls, cancelFold_calls,
      foldl_erase_filter told.tables.2.1.1, main] at mem
    obtain ⟨was, other⟩ := List.mem_filter.1 mem
    exact ⟨was, fun _ same => by simp [same] at other⟩
  case tickets.isTrue =>
    intro t mem
    rw [Part.removeGroupTickets, removeTickets_main, Part.cancelCalls] at mem
    obtain ⟨there, other⟩ := List.mem_filter.1 mem
    obtain ⟨u, was, group⟩ :=
      (told.cancelFold (fun e mem => (List.mem_filter.1 mem).1) (told.tables.2.1.1.filter _)).2 t there
    rw [main] at was
    exact ⟨⟨u, was, group⟩, fun _ same => by simp [same] at other⟩

theorem ModeChanged.recalled {g : Nat} {k : Mode} (changed : ModeChanged p q g k)
    (h : RecallClears p.main) : RecallClears q.main := by
  have free : ∀ x : Byte, (k = .recalled → x ≠ byte g) → Table.get .normal p.main.modes x.toNat ≠ .recalled →
      Table.get .normal q.main.modes x.toNat ≠ .recalled := fun x other before => by
    rw [changed.modes, get_set]
    split
    next same =>
      exact fun recalled => other recalled (by rw [← same, byte_of_toNat])
    next => exact before
  refine ⟨fun e mem => ?_, fun t mem => ?_⟩
  · obtain ⟨was, other⟩ := changed.calls e mem
    exact free _ other (h.1 e was)
  · obtain ⟨⟨u, was, group⟩, other⟩ := changed.tickets t mem
    exact free _ other (group ▸ h.2 u was)

/-! ## A group recomputed (R176, R178) -/

theorem CoreLawful.latch (h : CoreLawful p) (g : Nat) : CoreLawful (p.latch g) := by
  rw [latch_eq_withLatches]
  exact { h with ret := { h.ret with } }

theorem refreshGroup_latches (p : Part) (g : Nat) : (p.refreshGroup g).ret.latches = (p.latch g).ret.latches := by
  unfold Part.refreshGroup
  dsimp only
  split
  · rfl
  · rw [(changeMode_frame _ _ _).1]

theorem refreshGroup_modes (p : Part) (g : Nat) : (p.refreshGroup g).main.modes =
    if (p.latch g).effectiveMode g = p.mode g then p.main.modes
    else Table.set .normal p.main.modes g ((p.latch g).effectiveMode g) := by
  have mode : (p.latch g).mode g = p.mode g := by rw [Part.mode, (latch_spec p g).1, Part.mode]
  unfold Part.refreshGroup
  dsimp only
  rw [mode]
  split
  · rw [(latch_spec p g).1]
  · rw [(changeMode_frame _ _ _).2, (latch_spec p g).1]

theorem refreshGroup_mode_self (p : Part) (g : Nat) : (p.refreshGroup g).mode g = (p.latch g).effectiveMode g := by
  rw [Part.mode, refreshGroup_modes]
  split
  next same => exact same.symm
  next => exact get_set_self _ _ _ _

theorem refreshGroup_mode_ne (p : Part) {g k : Nat} (other : k ≠ g) : (p.refreshGroup g).mode k = p.mode k := by
  rw [Part.mode, refreshGroup_modes]
  split
  · rfl
  · exact get_set_ne _ _ _ _ _ other

theorem refreshGroup_holds (p : Part) (g k : Nat) (m : Mode) : (p.refreshGroup g).holds k m = p.holds k m := by
  obtain ⟨ret, main⟩ := refreshGroup_frame p g
  exact holds_congr (by rw [ret]) (by rw [ret]) (by rw [Part.marksOf, main, Part.marksOf]) m

theorem refreshGroup_settles (p : Part) {g : Nat} (place : g < 8) : Settled (p.refreshGroup g) g := by
  have latches := refreshGroup_latches p g
  refine ⟨?_, fun held => ?_⟩
  · rw [refreshGroup_mode_self]
    refine (effectiveMode_congr (by rw [latches]) fun m => ?_).symm
    rw [refreshGroup_holds, latch_eq_withLatches, holds_withLatches]
  · rw [refreshGroup_holds] at held
    rw [latches, inSet_latch_self p place, held, Bool.or_true]

theorem Settled.refreshGroup {k : Nat} (h : Settled p k) {g : Nat} (other : k ≠ g) : Settled (p.refreshGroup g) k :=
  h.congr (refreshGroup_mode_ne p other) (by rw [refreshGroup_latches, inSet_latch_ne p other])
    (refreshGroup_holds p g k)

theorem CoreLawful.refreshGroup (h : CoreLawful p) (recalled : RecallClears p.main) {g : Nat} (place : g < 8) :
    CoreLawful (p.refreshGroup g) ∧ RecallClears (p.refreshGroup g).main := by
  have clears : RecallClears (p.latch g).main := by rw [(latch_spec p g).1]; exact recalled
  unfold Part.refreshGroup
  dsimp only
  split
  · exact ⟨h.latch g, clears⟩
  · have changed := (h.latch g).changeMode place ((p.latch g).effectiveMode g)
    exact ⟨changed.core, changed.recalled clears⟩

/-- Groups recomputed in turn: each of them is settled, and each that was settled before stays so. -/
theorem CoreLawful.refreshFold (h : CoreLawful p) (recalled : RecallClears p.main) {gs : List Nat}
    (places : ∀ g ∈ gs, g < 8) : CoreLawful (gs.foldl Part.refreshGroup p) ∧
      RecallClears (gs.foldl Part.refreshGroup p).main ∧
      ∀ k < 8, k ∈ gs ∨ Settled p k → Settled (gs.foldl Part.refreshGroup p) k := by
  induction gs generalizing p with
  | nil => exact ⟨h, recalled, fun k _ before => before.resolve_left List.not_mem_nil⟩
  | cons g gs ih =>
    have place := places g List.mem_cons_self
    obtain ⟨core, clears⟩ := h.refreshGroup recalled place
    obtain ⟨core, clears, settled⟩ := ih core clears fun k mem => places k (List.mem_cons_of_mem g mem)
    refine ⟨core, clears, fun k here before => settled k here ?_⟩
    by_cases same : k = g
    · subst same
      exact .inr (refreshGroup_settles p place)
    · rcases before with mem | before
      · exact .inl ((List.mem_cons.1 mem).resolve_left same)
      · exact .inr (before.refreshGroup same)

/-- A recomputing of every group makes a part lawful that is so but for the modes. -/
theorem CoreLawful.refreshAll (h : CoreLawful p) (recalled : RecallClears p.main) : Lawful p.refreshAll := by
  obtain ⟨core, clears, settled⟩ := h.refreshFold recalled (gs := eight) fun g => mem_eight.1
  exact core.lawful (modesHeld_iff.2 fun k place => settled k place (.inl (mem_eight.2 place))) clears

/-- A recomputing of one group makes a part lawful that is so but for that group's mode. -/
theorem CoreLawful.refreshOne (h : CoreLawful p) (recalled : RecallClears p.main) {g : Nat} (place : g < 8)
    (others : ∀ k < 8, k ≠ g → Settled p k) : Lawful (p.refreshGroup g) := by
  obtain ⟨core, clears⟩ := h.refreshGroup recalled place
  refine core.lawful (modesHeld_iff.2 fun k here => ?_) clears
  by_cases same : k = g
  · subst same
    exact refreshGroup_settles p place
  · exact (others k here same).refreshGroup same

theorem Lawful.settled (h : Lawful p) {g : Nat} (place : g < 8) : Settled p g := modesHeld_iff.1 h.main.modes g place

/-! ## The alarm lines -/

theorem CoreLawful.setLine (h : CoreLawful p) {n : Nat} (place : n < 8) {l : LineLive}
    (timed : l.timer.isSome = decide (l.raw ≠ l.debounced)) : CoreLawful (p.setLine n l) := by
  obtain ⟨overlays, calls, drops, links, ⟨canonical, keys⟩, rest⟩ := h.tables
  refine { h with
    tables := ⟨overlays, calls, drops, links, ⟨canonical_set canonical n l,
      keysWithin_set keys ⟨Nat.zero_le _, Nat.le_of_lt_succ place⟩ _ _⟩, rest⟩
    lines := fun e mem => ?_ }
  have listed := lookup_of_mem (canonical_set canonical n l).1 mem
  have read := get_of_lookup (d := LineLive.quiet) listed
  rw [get_set] at read
  split at read
  · rw [← read]; exact timed
  · by_cases quiet : e.2 = .quiet
    · rw [quiet]; rfl
    · have other : Table.get .quiet p.main.lines e.1 ≠ .quiet := fun same => quiet (read.symm.trans same)
      have found := lookup_eq_some_of_get_ne other
      rw [read] at found
      exact h.lines _ (mem_of_lookup found)

theorem Lawful.setLine (h : Lawful p) {n : Nat} (place : n < 8) {l : LineLive}
    (timed : l.timer.isSome = decide (l.raw ≠ l.debounced)) : Lawful (p.setLine n l) :=
  (h.core.setLine place timed).lawful h.main.modes h.main.recalled

theorem CoreLawful.withLineStatus (h : CoreLawful p) (l : Set8) : CoreLawful (p.withLineStatus l) :=
  { h with ret := { h.ret with } }

theorem Lawful.debounced (h : Lawful p) {n : Nat} (place : n < 8) (raw : Bool) : Lawful (p.debounced n raw) := by
  have set : Lawful (p.setLine n ⟨raw, raw, none⟩) := h.setLine place (by simp)
  unfold Part.debounced
  dsimp only
  split
  · exact (set.core.withLineStatus _).refreshAll set.main.recalled
  · exact set

theorem Lawful.rawChange (h : Lawful p) {n : Nat} (place : n < 8) (high : Bool) : Lawful (p.rawChange n high) := by
  unfold Part.rawChange
  dsimp only
  split
  next same => exact h.setLine place (by simp [same])
  next other =>
    split
    · exact h.debounced place high
    · exact h.setLine place (by simp [other])

theorem Lawful.endDebounce (h : Lawful p) {n : Nat} (place : n < 8) : Lawful (p.endDebounce n) := by
  unfold Part.endDebounce
  split
  · exact h
  · split
    · exact h.debounced place _
    · exact h

theorem lineConfigOf_place {f : AlarmFields} {c : LineConfig} (config : lineConfigOf f = some c) : f.line.toNat < 8 := by
  unfold lineConfigOf at config
  split at config
  next ok => exact ok.1
  next => cases config

theorem Lawful.takeAlarmSet (h : Lawful p) (f : AlarmFields) : Lawful (takeAlarmSet f p).part := by
  unfold Machine.takeAlarmSet
  split
  · exact h
  next c config =>
    have place := lineConfigOf_place config
    obtain ⟨creds, tenants, schedules, landings, groups, transfers, drops, canonical, keys⟩ := h.ret.tables
    have put : CoreLawful (p.putLineConfig f.line.toNat c) := { h.core with
      ret := { h.ret with
        tables := ⟨creds, tenants, schedules, landings, groups, transfers, drops, canonical_set canonical _ c,
          keysWithin_set keys ⟨Nat.zero_le _, Nat.le_of_lt_succ place⟩ _ _⟩ } }
    unfold done Part.configureLine
    dsimp only
    split
    · exact (put.withLineStatus _).refreshAll h.main.recalled
    · exact put.refreshAll h.main.recalled

theorem Lawful.takeAlarmAck (h : Lawful p) (set : Set8) : Lawful (takeAlarmAck set p).part :=
  (h.core.withLineStatus _).refreshAll h.main.recalled

/-! ## The management demands -/

theorem groupOk_iff (g : Byte) : groupOk g = true ↔ g.toNat < 8 := decide_eq_true_iff

theorem Lawful.setMark (h : Lawful p) {g : Nat} (place : g < 8) (k : Mode) (on : Bool) :
    CoreLawful (p.setMark g k on) ∧ ∀ n < 8, n ≠ g → Settled (p.setMark g k on) n := by
  obtain ⟨overlays, calls, drops, links, lines, ⟨canonical, keys⟩, modes⟩ := h.main.tables
  refine ⟨{ h.core with tables := ⟨overlays, calls, drops, links, lines, ⟨canonical_set canonical _ _,
    keysWithin_set keys ⟨Nat.zero_le _, Nat.le_of_lt_succ place⟩ _ _⟩, modes⟩ }, fun n here other => ?_⟩
  exact (h.settled here).congr rfl rfl (holds_congr (p := p) (q := p.setMark g k on) rfl rfl (get_set_ne _ _ _ _ _ other))

theorem Lawful.takeModeDemand (h : Lawful p) (f : DemandFields) : Lawful (takeModeDemand f p).part := by
  unfold Machine.takeModeDemand
  split
  · exact h
  next ok =>
    split
    next k on _ _ =>
      have place : f.group.toNat < 8 := (groupOk_iff _).1 (by simpa using ok)
      obtain ⟨core, others⟩ := h.setMark place k on
      exact core.refreshOne h.main.recalled place others
    · exact h

theorem Lawful.resume (h : Lawful p) {g : Nat} (place : g < 8) : Lawful (p.resume g) := by
  unfold Part.resume
  split
  · have core : CoreLawful (p.withLatches (setPut p.ret.latches g false)) := { h.core with ret := { h.ret with } }
    exact core.refreshOne h.main.recalled place fun n here other =>
      (h.settled here).congr rfl (inSet_setPut_ne other _ _) fun k => rfl
  · exact h

theorem Lawful.takeGroupResume (h : Lawful p) (g : Byte) : Lawful (takeGroupResume g p).part := by
  unfold Machine.takeGroupResume
  split
  · exact h
  next ok =>
    split
    · exact h
    · exact h.resume ((groupOk_iff _).1 (by simpa using ok))

theorem Lawful.takeModeRead (h : Lawful p) (g : Byte) : Lawful (takeModeRead g p).part := by
  unfold Machine.takeModeRead
  split <;> exact h

end Sys2Proof.Laws
end

section
/-! SUPPORT. The calendar's and the map's commands (chapters 3 and 4) keep the laws. -/

namespace Sys2Proof.Laws

open Sys2Proof.Machine Sys2Proof.Safety

variable {p : Part}

/-! ## Calendar, holidays, schedules and parameters -/

/-- A trigger of the sweep leaves its counts in their range (R62). -/
theorem trigger_within {w : SweepWalker} (count : w.count ≤ Config.sweepCountMax) (day : Half) :
    (w.trigger day).count ≤ Config.sweepCountMax := by
  unfold SweepWalker.trigger
  dsimp only
  split
  · exact count
  · exact Nat.zero_le _

theorem retentionLaws_setCalendar {r : Retention} (h : RetentionLaws r) {f : CalFields} (minute : f.minute.toNat ≤ 1439) :
    RetentionLaws (r.setCalendar f) := by
  obtain ⟨-, -, -, -, -, -, -, -, -, count, last⟩ := h.limits
  unfold Retention.setCalendar
  refine retentionLaws_withCalendar h ?_ ?_ minute (Nat.zero_le _)
  · split
    · exact trigger_within count _
    · exact count
  · split
    · exact last
    · exact last

theorem Lawful.takeCalSet (h : Lawful p) (f : CalFields) : Lawful (takeCalSet f p).part := by
  unfold Machine.takeCalSet done
  split
  · exact h
  next early => exact ⟨retentionLaws_setCalendar h.ret (Nat.not_lt.1 early), { h.main with }, h.intact⟩

theorem Lawful.takeHolidaySet (h : Lawful p) (days : List Half) : Lawful (takeHolidaySet days p).part := by
  unfold Machine.takeHolidaySet done
  split
  · exact h
  next ok =>
    obtain ⟨room, grants, floors, windows, ranges, -, rest⟩ := h.ret.limits
    exact ⟨{ h.ret with limits := ⟨room, grants, floors, windows, ranges, by simpa using ok, rest⟩ }, { h.main with },
      h.intact⟩

/-- Setting an entry of a table in its one form leaves every listed value the new one or one listed before. -/
theorem forall_mem_set {α : Type} [DecidableEq α] {d : α} {t : Table α} (canonical : Table.canonical d t) {good : α → Prop}
    (before : ∀ e ∈ t, good e.2) (k : Nat) {a : α} (new : good a) : ∀ e ∈ Table.set d t k a, good e.2 := by
  intro e mem
  obtain ⟨sorted, listed⟩ := canonical_set canonical k a
  have read := get_of_lookup (d := d) (lookup_of_mem sorted mem)
  rw [get_set] at read
  split at read
  · exact read ▸ new
  · have found : Table.lookup t e.1 = some e.2 := by
      rw [← read]
      exact lookup_eq_some_of_get_ne (read ▸ listed e mem)
    exact before _ (mem_of_lookup found)

theorem Lawful.takeSchedSet (h : Lawful p) (f : SchedFields) : Lawful (takeSchedSet f p).part := by
  unfold Machine.takeSchedSet done
  split
  · exact h
  next ok =>
    obtain ⟨number, listed⟩ : scheduleOk f.schedule = true ∧ windowListOk f.windows = true := by simpa using ok
    obtain ⟨nonzero, last⟩ : f.schedule ≠ 0 ∧ f.schedule.toNat ≤ Config.lastSchedule := by simpa [scheduleOk] using number
    have first : 1 ≤ f.schedule.toNat := by
      refine Nat.pos_of_ne_zero fun zero => nonzero ?_
      exact BitVec.eq_of_toNat_eq zero
    obtain ⟨creds, tenants, ⟨canonical, keys⟩, rest⟩ := h.ret.tables
    obtain ⟨room, grants, floors, windows, limits⟩ := h.ret.limits
    exact ⟨{ h.ret with
      tables := ⟨creds, tenants, ⟨canonical_set canonical _ _, keysWithin_set keys ⟨first, last⟩ _ _⟩, rest⟩
      limits := ⟨room, grants, floors,
        forall_mem_set (good := fun l => windowListOk l = true) canonical windows _ listed, limits⟩ },
      { h.main with }, h.intact⟩

theorem Lawful.takeSchedRead (h : Lawful p) (n : Byte) : Lawful (takeSchedRead n p).part := by
  unfold Machine.takeSchedRead
  split <;> exact h

theorem value_put (s : Params) (q k : Param) (v : Nat) : (s.put q v).value k = if k = q then v else s.value k := by
  cases q <;> cases k <;> rfl

theorem value_put_self (s : Params) (q : Param) (v : Nat) : (s.put q v).value q = v :=
  (value_put s q q v).trans (if_pos rfl)

theorem value_put_ne (s : Params) {q k : Param} (other : k ≠ q) (v : Nat) : (s.put q v).value k = s.value k :=
  (value_put s q k v).trans (if_neg other)

theorem Lawful.takeParamSet (h : Lawful p) (f : ParamFields) : Lawful (takeParamSet f p).part := by
  unfold Machine.takeParamSet done
  split
  · exact h
  next q _ =>
    split
    next allowed =>
      obtain ⟨room, grants, floors, windows, ranges, holidays, params, rest⟩ := h.ret.limits
      refine ⟨{ h.ret with
        limits := ⟨room, grants, floors, windows, ranges, holidays, fun k listed => ?_, rest⟩ }, { h.main with }, h.intact⟩
      unfold paramIn
      by_cases same : k = q
      · rw [same]; exact (congrArg q.allows (value_put_self _ q _)).trans allowed
      · exact (congrArg k.allows (value_put_ne _ same _)).trans (params k listed)
    · exact h

/-! ## Landings -/

/-- What a range of landings set to a kind reads. -/
theorem get_setRange (t : Table LandingKind) (kind : LandingKind) (low len n : Nat) :
    Table.get .closed ((List.range' low len).foldl (fun acc n => Table.set .closed acc n kind) t) n =
      if low ≤ n ∧ n < low + len then kind else Table.get .closed t n := by
  induction len generalizing t low with
  | zero => simp [show ¬ (low ≤ n ∧ n < low) by omega]
  | succ len ih =>
    rw [List.range'_succ, List.foldl_cons, ih, get_set]
    by_cases here : n = low
    · simp [here]
    · by_cases within : low + 1 ≤ n ∧ n < low + 1 + len
      · rw [if_pos within, if_pos (by omega)]
      · rw [if_neg within, if_neg here, if_neg (by omega)]

theorem get_setLandings (t : Table LandingKind) {low high : Byte} (kind : LandingKind) (ordered : low ≤ high) (l : Byte) :
    Table.get .closed (setLandings t low.toNat high.toNat kind) l.toNat =
      if low ≤ l ∧ l ≤ high then kind else Table.get .closed t l.toNat := by
  rw [setLandings, get_setRange]
  refine if_congr ?_ rfl rfl
  bv_omega

theorem tables_setRange {t : Table LandingKind} {last : Nat}
    (h : Table.canonical .closed t ∧ keysWithin t 0 last) (kind : LandingKind) (low len : Nat)
    (within : low + len ≤ last + 1) : Table.canonical .closed
      ((List.range' low len).foldl (fun acc n => Table.set .closed acc n kind) t) ∧
      keysWithin ((List.range' low len).foldl (fun acc n => Table.set .closed acc n kind) t) 0 last := by
  induction len generalizing t low with
  | zero => exact h
  | succ len ih =>
    rw [List.range'_succ, List.foldl_cons]
    exact ih ⟨canonical_set h.1 _ _, keysWithin_set h.2 ⟨Nat.zero_le _, by omega⟩ _ _⟩ _ (by omega)

/-- A landing a transfer entry names, or a drop of kind SKY stands at, that is SKY and lies in a range in use (R71). -/
theorem sky_of_not_inUse {low high landing : Byte} (free : p.skyInUse low high = false)
    (used : (∃ e ∈ p.ret.transfers, e.2.landing = landing) ∨ ∃ e ∈ p.ret.drops, e.2.kind = .sky ∧ e.2.landing = landing)
    (sky : Table.get .closed p.ret.landings landing.toNat = .sky) : ¬ (low ≤ landing ∧ landing ≤ high) := by
  obtain ⟨transfers, drops⟩ := Bool.or_eq_false_iff.1 free
  rintro ⟨above, below⟩
  rcases used with ⟨e, mem, rfl⟩ | ⟨e, mem, kind, rfl⟩
  · have := List.any_eq_false.1 transfers e mem
    simp [above, below, Part.kindOf, sky] at this
  · have := List.any_eq_false.1 drops e mem
    simp [above, below, Part.kindOf, sky, kind] at this

theorem Lawful.takeLandingSet (h : Lawful p) (f : LandingFields) : Lawful (takeLandingSet f p).part := by
  unfold Machine.takeLandingSet done
  split
  · exact h
  next ok =>
    obtain ⟨⟨low, high⟩, ordered⟩ : (landingOk f.low = true ∧ landingOk f.high = true) ∧ ¬ f.high < f.low := by
      simpa using ok
    have ordered : f.low ≤ f.high := by bv_omega
    have last : f.high.toNat ≤ Config.lastLanding := of_decide_eq_true high
    split
    · exact h
    next kind _ =>
      split
      · exact h
      next free =>
        have stays : ∀ l : Byte, ((∃ e ∈ p.ret.transfers, e.2.landing = l) ∨
            ∃ e ∈ p.ret.drops, e.2.kind = .sky ∧ e.2.landing = l) →
            Table.get .closed p.ret.landings l.toNat = .sky →
            Table.get .closed (setLandings p.ret.landings f.low.toNat f.high.toNat kind) l.toNat = .sky := by
          intro l used sky
          rw [get_setLandings _ kind ordered]
          by_cases isSky : kind = .sky
          · split
            · exact isSky
            · exact sky
          · have free : p.skyInUse f.low f.high = false := by simpa [isSky] using free
            rw [if_neg (sky_of_not_inUse free used sky)]
            exact sky
        obtain ⟨creds, tenants, schedules, landings, rest⟩ := h.ret.tables
        obtain ⟨groups, transfers, drops⟩ := h.ret.map
        refine ⟨{ h.ret with
          tables := ⟨creds, tenants, schedules, tables_setRange landings kind _ _ (by bv_omega), rest⟩
          map := ⟨groups, fun e mem => ?_, fun e mem => ?_⟩ }, { h.main with }, h.intact⟩
        · obtain ⟨apart, first, second, sky⟩ := transfers e mem
          exact ⟨apart, first, second, stays _ (.inl ⟨e, mem, rfl⟩) sky⟩
        · obtain ⟨some, serve, sky⟩ := drops e mem
          exact ⟨some, serve, fun kind => stays _ (.inr ⟨e, mem, kind, rfl⟩) (sky kind)⟩

/-! ## Groups -/

/-- The map stays consistent when groups are rewritten and every transfer entry and drop is still served (R73, R74). -/
theorem mapConsistent_withGroups {r : Retention} (h : MapConsistent r) {gs : Table GroupEntry}
    (homed : ∀ e ∈ gs, inRanges e.2.ranges e.2.recallLanding = true)
    (transfers : ∀ e ∈ r.transfers, ∀ g, g = e.2.first ∨ g = e.2.second → served r g e.2.landing = true →
      served { r with groups := gs } g e.2.landing = true)
    (drops : ∀ e ∈ r.drops, ∀ g < 8, inSet e.2.groups g = true → served r (byte g) e.2.landing = true →
      served { r with groups := gs } (byte g) e.2.landing = true) : MapConsistent { r with groups := gs } := by
  obtain ⟨-, entries, placed⟩ := h
  refine ⟨homed, fun e mem => ?_, fun e mem => ?_⟩
  · obtain ⟨apart, first, second, sky⟩ := entries e mem
    exact ⟨apart, transfers e mem _ (.inl rfl) first, transfers e mem _ (.inr rfl) second, sky⟩
  · obtain ⟨some, serve, sky⟩ := placed e mem
    exact ⟨some, fun g listed within => drops e mem g (mem_eight.1 listed) within (serve g listed within), sky⟩

theorem served_put_self (r : Retention) (g : Byte) (e : GroupEntry) (l : Byte) :
    served { r with groups := Table.put r.groups g.toNat e } g l = inRanges e.ranges l := by
  simp [served, lookup_put_self]

theorem served_put_ne (r : Retention) {g k : Byte} (other : k ≠ g) (e : GroupEntry) (l : Byte) :
    served { r with groups := Table.put r.groups g.toNat e } k l = served r k l := by
  rw [served, served, lookup_put_ne _ _ _ _ fun same => other (BitVec.eq_of_toNat_eq same)]

theorem served_erase_ne (r : Retention) {g k : Byte} (other : k ≠ g) (l : Byte) :
    served { r with groups := Table.erase r.groups g.toNat } k l = served r k l := by
  rw [served, served, lookup_erase_ne _ _ _ fun same => other (BitVec.eq_of_toNat_eq same)]

theorem forall_mem_put {α : Type} {t : Table α} {good : α → Prop} (before : ∀ e ∈ t, good e.2) (k : Nat) {a : α}
    (new : good a) : ∀ e ∈ Table.put t k a, good e.2 := by
  intro e mem
  rcases mem_put mem with rfl | was
  · exact new
  · exact before e was

theorem Lawful.takeGroupSet (h : Lawful p) (f : GroupFields) : Lawful (takeGroupSet f p).part := by
  unfold Machine.takeGroupSet done
  split
  · exact h
  next ok =>
    obtain ⟨⟨place, ranges⟩, -⟩ : (groupOk f.group = true ∧ rangesOk f.ranges = true) ∧ landingOk f.recallLanding = true := by
      simpa using ok
    split
    · exact h
    next homed =>
      split
      · exact h
      next transfers =>
        split
        · exact h
        next drops =>
          have put : Lawful (p.putGroup f.group ⟨f.ranges, f.recallLanding⟩) := by
            obtain ⟨creds, tenants, schedules, landings, ⟨sorted, keys⟩, rest⟩ := h.ret.tables
            obtain ⟨room, grants, floors, windows, listed, limits⟩ := h.ret.limits
            refine ⟨{ h.ret with
              tables := ⟨creds, tenants, schedules, landings, ⟨sorted_put sorted _ _, fun e mem => ?_⟩, rest⟩
              limits := ⟨room, grants, floors, windows,
                forall_mem_put (good := fun e : GroupEntry => rangesOk e.ranges = true) listed _ ranges, limits⟩
              map := mapConsistent_withGroups h.ret.map
                (forall_mem_put (good := fun e : GroupEntry => inRanges e.ranges e.recallLanding = true) h.ret.map.1 _
                  (by simpa using homed))
                (fun e mem g named before => ?_) (fun e mem g small within before => ?_) }, { h.main with }, h.intact⟩
            · rcases mem_put mem with rfl | was
              · exact ⟨Nat.zero_le _, Nat.le_of_lt_succ ((groupOk_iff _).1 place)⟩
              · exact keys e was
            · by_cases same : g = f.group
              · rw [same, served_put_self]
                have := List.any_eq_false.1 (Bool.eq_false_iff.2 transfers) e mem
                rcases named with named | named <;> simpa [← named, same] using this
              · rw [served_put_ne _ same]; exact before
            · by_cases same : byte g = f.group
              · rw [same, served_put_self]
                have number : f.group.toNat = g := by rw [← same, byte_toNat (by omega)]
                have := List.any_eq_false.1 (Bool.eq_false_iff.2 drops) e mem
                simpa [number, within] using this
              · rw [served_put_ne _ same]; exact before
          split
          · exact put.notice _
          · exact put

theorem Lawful.takeGroupClear (h : Lawful p) (g : Byte) : Lawful (takeGroupClear g p).part := by
  unfold Machine.takeGroupClear done
  split
  · exact h
  · split
    · exact h
    next unnamed =>
      obtain ⟨transfers, drops⟩ := Bool.or_eq_false_iff.1 (Bool.eq_false_iff.2 unnamed)
      obtain ⟨creds, tenants, schedules, landings, ⟨sorted, keys⟩, rest⟩ := h.ret.tables
      obtain ⟨room, grants, floors, windows, listed, limits⟩ := h.ret.limits
      refine ⟨{ h.ret with
        tables := ⟨creds, tenants, schedules, landings,
          ⟨sorted_erase sorted _, fun e mem => keys e (mem_erase.1 mem).1⟩, rest⟩
        limits := ⟨room, grants, floors, windows, fun e mem => listed e (mem_erase.1 mem).1, limits⟩
        map := mapConsistent_withGroups h.ret.map (fun e mem => h.ret.map.1 e (mem_erase.1 mem).1)
          (fun e mem k named before => ?_) (fun e mem k small within before => ?_) }, { h.main with }, h.intact⟩
      · have apart := List.any_eq_false.1 transfers e mem
        have other : k ≠ g := by
          rintro rfl
          rcases named with named | named <;> simp [← named] at apart
        rw [served_erase_ne _ other]; exact before
      · have apart := List.any_eq_false.1 drops e mem
        have other : byte k ≠ g := by
          rintro rfl
          rw [byte_toNat (by omega)] at apart
          exact apart within
        rw [served_erase_ne _ other]; exact before

theorem Lawful.takeGroupRead (h : Lawful p) (g : Byte) : Lawful (takeGroupRead g p).part := by
  unfold Machine.takeGroupRead
  split <;> exact h

/-! ## The transfer table -/

theorem Lawful.takeTransferSet (h : Lawful p) (f : TransferFields) : Lawful (takeTransferSet f p).part := by
  unfold Machine.takeTransferSet done
  split
  · exact h
  next ok =>
    split
    · exact h
    next apart =>
      split
      · exact h
      next sky =>
        split
        · exact h
        next serve =>
          obtain ⟨first, second⟩ : p.serves f.first f.landing = true ∧ p.serves f.second f.landing = true := by
            simpa using serve
          obtain ⟨creds, tenants, schedules, landings, groups, ⟨sorted, keys⟩, rest⟩ := h.ret.tables
          obtain ⟨homed, entries, drops⟩ := h.ret.map
          refine ⟨{ h.ret with
            tables := ⟨creds, tenants, schedules, landings, groups, ⟨sorted_put sorted _ _, fun e mem => ?_⟩, rest⟩
            map := ⟨homed, fun e mem => ?_, drops⟩ }, { h.main with }, h.intact⟩
          · rcases mem_put mem with rfl | was
            · have place : f.position.toNat < Config.transfers := by
                by_contra late
                exact ok (by simp [Nat.not_lt.1 late])
              exact ⟨Nat.zero_le _, Nat.le_of_lt_succ place⟩
            · exact keys e was
          · rcases mem_put mem with rfl | was
            · exact ⟨apart, first, second, not_not.1 sky⟩
            · exact entries e was

theorem Lawful.takeTransferClear (h : Lawful p) (n : Byte) : Lawful (takeTransferClear n p).part := by
  unfold Machine.takeTransferClear done
  split
  · exact h
  · obtain ⟨creds, tenants, schedules, landings, groups, ⟨sorted, keys⟩, rest⟩ := h.ret.tables
    obtain ⟨homed, entries, drops⟩ := h.ret.map
    exact ⟨{ h.ret with
      tables := ⟨creds, tenants, schedules, landings, groups,
        ⟨sorted_erase sorted _, fun e mem => keys e (mem_erase.1 mem).1⟩, rest⟩
      map := ⟨homed, fun e mem => entries e (mem_erase.1 mem).1, drops⟩ }, { h.main with }, h.intact⟩

/-! ## Reads -/

theorem Lawful.readOnly (h : Lawful p) (view : Part → Results) (f : Unit) : Lawful (readOnly view f p).part := h

theorem Lawful.takePanelRead (h : Lawful p) (d : Byte) : Lawful (takePanelRead d p).part := by
  unfold Machine.takePanelRead
  split <;> exact h

theorem Lawful.takeDropRead (h : Lawful p) (d : Byte) : Lawful (takeDropRead d p).part := by
  unfold Machine.takeDropRead
  split <;> exact h

end Sys2Proof.Laws
end

section
/-! SUPPORT. The Panel Link Controllers (chapter 8): polls, replies, misses and the ends of the memories keep the laws. -/

namespace Sys2Proof.Laws

open Sys2Proof.Machine Sys2Proof.Safety

variable {p q : Part}

/-! ## The laws of the drops and the links -/

/-- The laws of the drops and of the panel links, by drop and by link. -/
structure PanelsLawful (p : Part) : Prop where
  sorted : Table.sorted p.ret.drops ∧ keysWithin p.ret.drops 0 95
  drops : Table.canonical .unconfigured p.main.drops ∧ keysWithin p.main.drops 0 95
  links : Table.canonical .fresh p.main.links ∧ keysWithin p.main.links 0 5
  sound : ∀ i, DropSound (configured p.ret i) (busy p.main i) (p.drop i)
  polls : ∀ l c, (p.panelLink l).poll = some c →
    PollSound (busy p.main (dropIndex l c.address)) c (p.drop (dropIndex l c.address))

theorem CoreLawful.panels (h : CoreLawful p) : PanelsLawful p := by
  obtain ⟨-, -, -, -, -, -, sorted, -⟩ := h.ret.tables
  obtain ⟨-, -, drops, links, -⟩ := h.tables
  exact ⟨sorted, drops, links, (dropsBounded_iff drops.1 sorted.1).1 h.drops, (pollsInStep_iff links.1.1).1 h.polls⟩

theorem CoreLawful.withPanels (h : CoreLawful p) (panels : PanelsLawful q) (ret : q.ret = p.ret)
    (main : q.main = { p.main with drops := q.main.drops, links := q.main.links }) : CoreLawful q := by
  obtain ⟨sorted, drops, links, sound, polls⟩ := panels
  have bounded := (dropsBounded_iff drops.1 sorted.1).2 sound
  have inStep := (pollsInStep_iff links.1.1).2 polls
  obtain ⟨ret', main'⟩ := q
  obtain rfl : ret' = p.ret := ret
  generalize main'.drops = ds at *
  generalize main'.links = ls at *
  obtain rfl : main' = { p.main with drops := ds, links := ls } := main
  obtain ⟨overlays, calls, -, -, lines⟩ := h.tables
  exact { h with tables := ⟨overlays, calls, drops, links, lines⟩, drops := bounded, polls := inStep }

theorem Lawful.withPanels (h : Lawful p) (panels : PanelsLawful q) (ret : q.ret = p.ret)
    (main : q.main = { p.main with drops := q.main.drops, links := q.main.links }) : Lawful q := by
  refine (h.core.withPanels panels ret main).lawful ?_ ?_
  · rw [ret, main]; exact h.main.modes
  · rw [main]; exact h.main.recalled

theorem PanelsLawful.setDrop (h : PanelsLawful p) {i : Nat} (place : i ≤ 95) {d : DropLive}
    (sound : DropSound (configured p.ret i) (busy p.main i) d)
    (polls : ∀ l c, (p.panelLink l).poll = some c → dropIndex l c.address = i → PollSound (busy p.main i) c d) :
    PanelsLawful (p.setDrop i d) := by
  refine ⟨h.sorted, ⟨canonical_set h.drops.1 _ _, keysWithin_set h.drops.2 ⟨Nat.zero_le _, place⟩ _ _⟩, h.links,
    fun k => ?_, fun l c outstanding => ?_⟩
  · by_cases same : k = i
    · subst same
      rw [drop_setDrop_self]; exact sound
    · rw [drop_setDrop_ne p same]; exact h.sound k
  · by_cases same : dropIndex l c.address = i
    · rw [same, drop_setDrop_self]
      exact polls l c outstanding same
    · rw [drop_setDrop_ne p same]
      exact h.polls l c outstanding

theorem panelLink_setLink_self (p : Part) (l : Nat) (k : PanelLink) : (p.setLink l k).panelLink l = k :=
  get_set_self _ _ _ _

theorem panelLink_setLink_ne (p : Part) {n l : Nat} (other : n ≠ l) (k : PanelLink) :
    (p.setLink l k).panelLink n = p.panelLink n := get_set_ne _ _ _ _ _ other

theorem PanelsLawful.setLink (h : PanelsLawful p) {l : Nat} (place : l ≤ 5) {k : PanelLink}
    (poll : ∀ c, k.poll = some c →
      PollSound (busy p.main (dropIndex l c.address)) c (p.drop (dropIndex l c.address))) :
    PanelsLawful (p.setLink l k) := by
  refine ⟨h.sorted, h.drops, ⟨canonical_set h.links.1 _ _, keysWithin_set h.links.2 ⟨Nat.zero_le _, place⟩ _ _⟩,
    h.sound, fun n c outstanding => ?_⟩
  by_cases same : n = l
  · subst same
    rw [panelLink_setLink_self] at outstanding
    exact poll c outstanding
  · rw [panelLink_setLink_ne p same] at outstanding
    exact h.polls n c outstanding

theorem dropIndex_inj {l n a b : Nat} (small : a ≤ 15) (small' : b ≤ 15) (same : dropIndex l a = dropIndex n b) :
    l = n ∧ a = b := by
  unfold dropIndex Config.addresses at same
  omega

/-! ## Polls -/

theorem nextAddress_mem {l a : Nat} (next : p.nextAddress l = some a) : a ∈ p.polledAddresses l := by
  unfold Part.nextAddress at next
  dsimp only at next
  split at next
  · exact List.mem_of_mem_head? next
  · rcases Option.or_eq_some_iff.1 next with found | ⟨-, head⟩
    · exact List.mem_of_find?_eq_some found
    · exact List.mem_of_mem_head? head

theorem length_markCarried (l : List AnswerEntry) : (markCarried l).length = l.length := by cases l <;> rfl

/-- Marking the oldest answer as carried keeps the law of a drop. -/
theorem DropSound.marked {on calling : Bool} {d : DropLive} (h : DropSound on calling d) :
    DropSound on calling { d with answers := markCarried d.answers } := by
  refine ⟨h.live, fun off => ?_, fun down => ?_, h.queue, ?_⟩
  · rw [h.dead off]; rfl
  · obtain ⟨queue, answers, memory, escort⟩ := h.idle down
    exact ⟨queue, by rw [answers]; rfl, memory, escort⟩
  · have bound := h.bound
    unfold loadOf at bound ⊢
    rw [length_markCarried]
    exact bound

theorem pollSound_pollOf {on calling : Bool} {d : DropLive} (sound : DropSound on calling d) {a : Nat} (small : a ≤ 15) :
    PollSound calling (pollOf a d) { d with answers := markCarried d.answers } := by
  unfold pollOf
  split
  next empty =>
    refine ⟨small, nofun, fun _ => ?_⟩
    have queue := sound.queue
    have calls : tally calling ≤ 1 := by cases calling <;> decide
    unfold loadOf
    unfold Config.requestQueue at queue
    rw [empty]
    simp only [markCarried, List.length_nil]
    omega
  next e rest answers =>
    refine ⟨small, fun x carried _ => ?_, nofun⟩
    obtain rfl : e.answer = x := Option.some.inj carried
    rw [answers]
    rfl

theorem PanelsLawful.sendPoll (h : PanelsLawful p) {l : Nat} (place : l ≤ 5) : PanelsLawful (p.sendPoll l) := by
  unfold Part.sendPoll
  dsimp only
  split
  · exact h
  next free =>
    split
    · exact h
    next a next =>
      obtain ⟨small, -⟩ := (mem_polledAddresses p l a).1 (nextAddress_mem next)
      have small : a ≤ 15 := Nat.le_of_lt_succ small
      have sound := h.sound (dropIndex l a)
      refine (h.setDrop ?_ sound.marked fun n c outstanding same => ?_).setLink place fun c polled => ?_
      · unfold dropIndex Config.addresses; omega
      · obtain ⟨rfl, -⟩ := dropIndex_inj (h.polls n c outstanding).place small same
        exact absurd (by rw [outstanding]; rfl) free
      · obtain rfl : pollOf a (p.drop (dropIndex l a)) = c := Option.some.inj polled
        have address : (pollOf a (p.drop (dropIndex l a))).address = a := by unfold pollOf; split <;> rfl
        rw [address, drop_setDrop_self]
        exact pollSound_pollOf sound small

theorem CoreLawful.sendPoll (h : CoreLawful p) {l : Nat} (place : l ≤ 5) : CoreLawful (p.sendPoll l) :=
  h.withPanels (h.panels.sendPoll place) (sendPoll_frame p l).1 (sendPoll_frame p l).2

theorem Lawful.sendPoll (h : Lawful p) {l : Nat} (place : l ≤ 5) : Lawful (p.sendPoll l) :=
  h.withPanels (h.core.panels.sendPoll place) (sendPoll_frame p l).1 (sendPoll_frame p l).2

/-- The end of an outstanding poll. -/
theorem Lawful.clearPoll (h : Lawful p) {l : Nat} (place : l ≤ 5) :
    Lawful (p.setLink l { p.panelLink l with poll := none }) :=
  h.withPanels (h.core.panels.setLink place fun e polled => absurd polled (Option.some_ne_none e).symm) rfl rfl

theorem Lawful.endPoll (h : Lawful p) {l : Nat} (place : l ≤ 5) : Lawful (p.endPoll l) :=
  (h.clearPoll place).sendPoll place

theorem Lawful.startWindow (h : Lawful p) {l : Nat} (place : l ≤ 5) : Lawful (p.startWindow l) := by
  unfold Part.startWindow
  split
  · exact h
  next c outstanding =>
    refine h.withPanels (h.core.panels.setLink place fun e running => ?_) rfl rfl
    obtain rfl : { c with windowRunning := true } = e := Option.some.inj running
    obtain ⟨small, carries, room⟩ := h.core.panels.polls l c outstanding
    exact ⟨small, carries, room⟩

/-! ## Replies and misses -/

/-- The drop a poll is addressed to is one of the 96. -/
theorem Lawful.polled_le (h : Lawful p) {l : Nat} (place : l ≤ 5) {c : Poll} (outstanding : (p.panelLink l).poll = some c) :
    dropIndex l c.address ≤ 95 := by
  have small := (h.core.panels.polls l c outstanding).place
  unfold dropIndex Config.addresses
  omega

theorem configured_of_live {on calling : Bool} {d : DropLive} (h : DropSound on calling d) (live : d ≠ .unconfigured) :
    on = true := by
  cases on with
  | true => rfl
  | false => exact absurd (h.dead rfl) live

/-- A drop that is emptied or UP, and otherwise changes nothing a poll reads, keeps its outstanding poll in step. -/
theorem pollSound_emptied {calling : Bool} {c : Poll} (small : c.address ≤ 15) {state : DropState} (down : state ≠ .up) :
    PollSound calling c (.emptied state) := by
  refine ⟨small, fun _ _ up => absurd up down, fun _ => ?_⟩
  cases calling <;> simp [loadOf, DropLive.emptied, tally]

theorem Lawful.easeDrop (h : Lawful p) {i : Nat} (place : i ≤ 95) {d : DropLive}
    (eases : Eases (busy p.main i) (busy p.main i) (p.drop i) d) : Lawful (p.setDrop i d) :=
  h.withPanels (h.core.panels.setDrop place (eases.dropSound (h.core.panels.sound i)) fun l c outstanding same =>
    eases.pollSound (same ▸ h.core.panels.polls l c outstanding)) rfl rfl

/-- A drop that is not UP changes to a state that is live and not UP. -/
theorem Lawful.emptyDrop (h : Lawful p) {i : Nat} (place : i ≤ 95) {d : DropLive} (live : p.drop i ≠ .unconfigured)
    (on : d.state ≠ .unconfigured) (queue : d.queue = []) (answers : d.answers = []) (memory : d.memory = none)
    (escort : d.escort = none) (free : d.state = .up → ∀ l c, (p.panelLink l).poll = some c → dropIndex l c.address ≠ i) :
    Lawful (p.setDrop i d) := by
  have calls : tally (busy p.main i) ≤ 1 := by cases busy p.main i <;> decide
  have small : loadOf (busy p.main i) d ≤ 1 := by
    unfold loadOf
    rw [queue, answers, List.length_nil, List.length_nil]
    omega
  have config := configured_of_live (h.core.panels.sound i) live
  refine h.withPanels (h.core.panels.setDrop place ⟨fun _ => on, fun off => ?_, fun _ => ⟨queue, answers, memory, escort⟩,
    by rw [queue]; exact Nat.zero_le _, small.trans (by decide)⟩ fun l c outstanding same => ?_) rfl rfl
  · rw [config] at off; cases off
  · exact ⟨(h.core.panels.polls l c outstanding).place, fun a _ up => absurd same (free up l c outstanding),
      fun _ => small.trans (by decide)⟩

theorem Lawful.takeMiss (h : Lawful p) {i : Nat} (place : i ≤ 95) : Lawful (p.takeMiss i) := by
  have sound := h.core.panels.sound i
  unfold Part.takeMiss
  dsimp only
  split
  · exact h
  · exact h
  next state =>
    obtain ⟨queue, answers, memory, escort⟩ := sound.idle (by rw [state]; nofun)
    exact h.emptyDrop place (fun same => by rw [same] at state; cases state) nofun queue answers memory escort nofun
  next state =>
    split
    · have live : p.drop i ≠ .unconfigured := fun same => by rw [same] at state; cases state
      have empty : Lawful (p.setDrop i (.emptied .down)) := h.emptyDrop place live nofun rfl rfl rfl rfl nofun
      exact empty.raisePanelDown
    · exact h.easeDrop place ⟨rfl, Nat.le_refl _, Nat.le_refl _, fun _ => id, fun down => absurd state down⟩

theorem Lawful.missPoll (h : Lawful p) {l : Nat} (place : l ≤ 5) : Lawful (p.missPoll l) := by
  unfold Part.missPoll
  split
  · exact h
  next c outstanding => exact (h.takeMiss (h.polled_le place outstanding)).endPoll place

/-- A reply heard by an UP drop whose poll was in step: the acknowledged answer makes room for the one the request may
need (R155, R159, R161, R163). -/
theorem DropSound.heard {on calling : Bool} {d : DropLive} (h : DropSound on calling d) {c : Poll}
    (inStep : PollSound calling c d) (up : d.state = .up) (request : Option Request) :
    DropSound on calling (d.heard c.answer.isSome request) := by
  have live : on = true := configured_of_live h fun same => by rw [same] at up; cases up
  have acked : (({ d with missRun := 0 } : DropLive).acknowledge c.answer.isSome).state = .up ∧
      (({ d with missRun := 0 } : DropLive).acknowledge c.answer.isSome).queue = d.queue ∧
      loadOf calling (({ d with missRun := 0 } : DropLive).acknowledge c.answer.isSome) ≤ 3 := by
    unfold DropLive.acknowledge
    split
    next carries =>
      obtain ⟨a, carries⟩ := Option.isSome_iff_exists.1 carries
      have head := inStep.carries a carries up
      have bound := h.bound
      refine ⟨up, rfl, ?_⟩
      unfold loadOf Config.answerList at bound
      unfold loadOf
      cases answers : d.answers with
      | nil => rw [answers] at head; cases head
      | cons e rest =>
        rw [answers, List.length_cons] at bound
        simp only [List.tail_cons]
        omega
    next carries => exact ⟨up, rfl, inStep.room (by simpa using carries)⟩
  unfold DropLive.heard
  generalize ({ d with missRun := 0 } : DropLive).acknowledge c.answer.isSome = a at acked
  obtain ⟨state, queue, room⟩ := acked
  have whole : ∀ e : DropLive, e.state = .up → e.queue.length ≤ Config.requestQueue → loadOf calling e ≤ 4 →
      DropSound on calling e := fun e stands fits bound =>
    { live := fun _ same => by rw [stands] at same; cases same
      dead := fun off => by rw [live] at off; cases off
      idle := fun down => absurd stands down
      queue := fits
      bound := bound }
  cases request with
  | none => exact whole a state (queue ▸ h.queue) (room.trans (by decide))
  | some r =>
    simp only [DropLive.ask]
    unfold loadOf at room
    split
    next fits =>
      exact whole _ state (by simpa using fits)
        (by simp only [loadOf, List.length_append, List.length_singleton]; omega)
    · exact whole _ state (queue ▸ h.queue) (by simp only [loadOf, List.length_append, List.length_singleton]; omega)

/-- The reply to a poll that has ended: the poll was in step and no poll outstanding names its drop. -/
theorem Lawful.takeReply (h : Lawful p) {i : Nat} (place : i ≤ 95) {c : Poll}
    (free : ∀ l e, (p.panelLink l).poll = some e → dropIndex l e.address ≠ i)
    (inStep : PollSound (busy p.main i) c (p.drop i)) (request : Option Request) :
    Lawful (p.takeReply i c request) := by
  have sound := h.core.panels.sound i
  unfold Part.takeReply
  dsimp only
  split
  · exact h
  next state =>
    obtain ⟨queue, answers, memory, escort⟩ := sound.idle (by rw [state]; nofun)
    exact h.emptyDrop place (fun same => by rw [same] at state; cases state) nofun queue answers memory escort nofun
  next state =>
    obtain ⟨queue, answers, memory, escort⟩ := sound.idle (by rw [state]; nofun)
    have live : p.drop i ≠ .unconfigured := fun same => by rw [same] at state; cases state
    split
    · exact h.emptyDrop place live nofun queue answers memory escort fun _ => free
    · exact h.emptyDrop place live (by simp [state]) queue answers memory escort fun _ => free
  next state =>
    exact h.withPanels (h.core.panels.setDrop place (sound.heard inStep state request) fun l e outstanding same =>
      absurd same (free l e outstanding)) rfl rfl

/-- Taking a reply reads no link, so the poll may be ended before it. -/
theorem setLink_takeReply (p : Part) (l : Nat) (k : PanelLink) (i : Nat) (c : Poll) (request : Option Request) :
    (p.takeReply i c request).setLink l k = (p.setLink l k).takeReply i c request := by
  unfold Part.takeReply
  dsimp only
  have drop : (p.setLink l k).drop i = p.drop i := rfl
  have params : (p.setLink l k).ret = p.ret := rfl
  rw [drop, params]
  split
  · rfl
  · rfl
  · split <;> rfl
  · rfl

theorem panelLink_takeReply (p : Part) (i : Nat) (c : Poll) (request : Option Request) (l : Nat) :
    (p.takeReply i c request).panelLink l = p.panelLink l := by
  rw [Part.panelLink, (takeReply_frame p i c request).2]
  rfl

theorem Lawful.replyFrame (h : Lawful p) {l : Nat} (place : l ≤ 5) (address : Nat) (request : Option Request) :
    Lawful (p.replyFrame l address request) := by
  unfold Part.replyFrame
  split
  · exact h
  next c outstanding =>
    split
    · unfold Part.endPoll
      rw [panelLink_takeReply, setLink_takeReply]
      have inStep := h.core.panels.polls l c outstanding
      have cleared := h.clearPoll place
      refine Lawful.sendPoll (cleared.takeReply (h.polled_le place outstanding) (fun n e polled same => ?_) inStep request) place
      by_cases other : n = l
      · subst other
        rw [panelLink_setLink_self] at polled
        cases polled
      · exact other (dropIndex_inj (cleared.core.panels.polls n e polled).place inStep.place same).1
    · exact h.missPoll place

/-! ## The ends of frames -/

theorem panel_le (l : Fin 6) : l.val ≤ 5 := Nat.le_of_lt_succ l.isLt

theorem Lawful.panelFrame (h : Lawful p) (l : Fin 6) {judge : Part → Part} (judges : ∀ q, Lawful q → Lawful (judge q)) :
    Lawful (p.panelFrame l judge) := by
  unfold Part.panelFrame
  dsimp only
  split
  · exact (h.hunt _).markLate _ _
  · exact judges _ ((h.hunt _).markLate _ _)

theorem Lawful.windowEnd (h : Lawful p) (l : Fin 6) : Lawful (p.windowEnd l) := by
  unfold Part.windowEnd
  split
  · exact h
  · split
    · exact (h.markLate _ _).missPoll (panel_le l)
    · exact h

theorem Lawful.gapOn (h : Lawful p) (w : Wire) : Lawful (p.gapOn w) := by
  cases w with
  | panel l => exact h.panelFrame l fun q lawful => lawful.missPoll (panel_le l)
  | dispatcher => exact h.hunt _
  | management => exact h.hunt _

/-! ## The ends of the memories -/

theorem Lawful.endMemory (h : Lawful p) (i : Fin 96) : Lawful (p.endMemory i) := by
  unfold Part.endMemory
  split
  · exact h
  next memory =>
    split
    · refine h.easeDrop (Nat.le_of_lt_succ i.isLt) ⟨rfl, Nat.le_refl _, Nat.le_refl _, fun _ => id, fun down => ?_⟩
      obtain ⟨-, -, none, -⟩ := (h.core.panels.sound i).idle down
      rw [none] at memory
      cases memory
    · exact h

theorem Lawful.endEscort (h : Lawful p) (i : Fin 96) : Lawful (p.endEscort i) := by
  unfold Part.endEscort
  split
  · exact h
  next escort =>
    split
    · refine h.easeDrop (Nat.le_of_lt_succ i.isLt) ⟨rfl, Nat.le_refl _, Nat.le_refl _, fun _ => id, fun down => ?_⟩
      obtain ⟨-, -, -, none⟩ := (h.core.panels.sound i).idle down
      rw [none] at escort
      cases escort
    · exact h

/-! ## PANEL_SET (R80 to R82) -/

theorem configured_assign (r : Retention) (i : Nat) (c : Option DropConfig) (n : Nat) :
    configured { r with drops := Table.assign r.drops i c } n = if n = i then c.isSome else configured r n := by
  simp only [configured, lookup_assign]
  split <;> rfl

/-- The part with a drop's configuration written or removed and the drop reset, its link not yet polling (R80 to R82). -/
def reconfigured (p : Part) (i : Nat) (c : Option DropConfig) : Part :=
  Part.resetDrop { p with ret := { p.ret with drops := Table.assign p.ret.drops i c } } i c.isSome

theorem configureDrop_eq (p : Part) (i : Nat) (c : Option DropConfig) :
    p.configureDrop i c = (reconfigured p i c).sendPoll (i / Config.addresses) := rfl

theorem reconfigured_drop (p : Part) (i : Nat) (c : Option DropConfig) (n : Nat) : (reconfigured p i c).drop n =
    if n = i then .emptied (if c.isSome then .qualifying else .unconfigured) else p.drop n := get_set _ _ _ _ _

theorem PanelsLawful.reconfigured (h : PanelsLawful p) {i : Nat} (place : i ≤ 95) (c : Option DropConfig) :
    PanelsLawful (reconfigured p i c) := by
  have sorted := sorted_assign h.sorted.1 i c
  refine ⟨⟨sorted, keysWithin_assign h.sorted.2 ⟨Nat.zero_le _, place⟩ _⟩,
    ⟨canonical_set h.drops.1 _ _, keysWithin_set h.drops.2 ⟨Nat.zero_le _, place⟩ _ _⟩, h.links, fun n => ?_,
    fun l e outstanding => ?_⟩
  · have config : configured (Laws.reconfigured p i c).ret n = if n = i then c.isSome else configured p.ret n :=
      configured_assign p.ret i c n
    rw [config, reconfigured_drop]
    split
    · exact dropSound_emptied (by cases c <;> rfl)
    · exact h.sound n
  · have before := h.polls l e outstanding
    rw [reconfigured_drop]
    split
    · exact pollSound_emptied before.place (by cases c <;> nofun)
    · exact before

theorem Lawful.configureDrop (h : Lawful p) {i : Nat} (place : i ≤ 95) {c : Option DropConfig}
    (idle : p.dropInCall i = false)
    (consistent : ∀ d ∈ c, d.groups ≠ 0 ∧ (∀ g ∈ eight, inSet d.groups g = true → served p.ret (byte g) d.landing = true) ∧
      (d.kind = .sky → Table.get .closed p.ret.landings d.landing.toNat = .sky)) : Lawful (p.configureDrop i c) := by
  rw [configureDrop_eq]
  refine Lawful.sendPoll ?_ (by unfold Config.addresses; omega)
  obtain ⟨sorted, canonical, linked, sound, polls⟩ := h.core.panels.reconfigured place c
  obtain ⟨creds, tenants, schedules, landings, groups, transfers, -, lines⟩ := h.ret.tables
  obtain ⟨overlays, calls, -, -, rest⟩ := h.main.tables
  have free : ∀ e ∈ p.main.calls, e.2.drop ≠ i := by simpa [Part.dropInCall] using idle
  exact ⟨{ h.ret with
    tables := ⟨creds, tenants, schedules, landings, groups, transfers, sorted, lines⟩
    map := ⟨h.ret.map.1, h.ret.map.2.1, fun e mem => by
      have found := lookup_of_mem sorted.1 mem
      have assigned : Table.lookup (Table.assign p.ret.drops i c) e.1 = some e.2 := found
      rw [lookup_assign] at assigned
      split at assigned
      · exact consistent e.2 assigned
      · exact h.ret.map.2.2 e (mem_of_lookup assigned)⟩ }, { h.main with
    tables := ⟨overlays, calls, canonical, linked, rest⟩
    drops := (dropsBounded_iff canonical.1 sorted.1).2 sound
    polls := (pollsInStep_iff linked.1.1).2 polls
    calls := ⟨h.main.calls.1, fun e mem => ⟨(h.main.calls.2 e mem).1, by
      have kept : Table.lookup (reconfigured p i c).ret.drops e.2.drop = Table.lookup p.ret.drops e.2.drop :=
        (lookup_assign _ _ _ _).trans (if_neg (free e mem))
      rw [kept]
      exact (h.main.calls.2 e mem).2⟩⟩ }, h.intact⟩

theorem dropOk_iff (d : Byte) : dropOk d = true ↔ d.toNat < 96 := decide_eq_true_iff

theorem Lawful.takePanelSet (h : Lawful p) (f : PanelFields) : Lawful (takePanelSet f p).part := by
  unfold Machine.takePanelSet done
  split
  next d kindCode landing groups =>
    split
    · exact h
    next kind _ =>
      split
      · exact h
      next ok =>
        obtain ⟨⟨place, -⟩, some⟩ : (dropOk d = true ∧ landingOk landing = true) ∧ groups ≠ 0 := by simpa using ok
        split
        · exact h
        next serves =>
          split
          · exact h
          next sky =>
            split
            · exact h
            next idle =>
              refine h.configureDrop (Nat.le_of_lt_succ ((dropOk_iff d).1 place)) (Bool.eq_false_iff.2 idle) fun e made => ?_
              obtain rfl : (⟨kind, landing, groups⟩ : DropConfig) = e := Option.some.inj made
              refine ⟨some, fun g listed within => ?_, fun isSky => by_contra fun other => sky ⟨isSky, other⟩⟩
              have all : p.allServe groups landing = true := by simpa using serves
              have one := List.all_eq_true.1 all g listed
              rw [within, Bool.not_true, Bool.false_or] at one
              exact one
  next d =>
    split
    · exact h
    next place =>
      split
      · exact h
      next idle =>
        exact h.configureDrop (Nat.le_of_lt_succ ((dropOk_iff d).1 (by simpa using place))) (Bool.eq_false_iff.2 idle) nofun

end Sys2Proof.Laws
end

section
/-! SUPPORT. A decision (chapter 5): what it writes, for an answer and for a placement. -/

namespace Sys2Proof.Laws

open Sys2Proof.Machine Sys2Proof.Safety

variable {p : Part}

/-! ## The arbiter's choice (R87, R88) -/

theorem eligible_iff {i : Nat} : p.eligible i = true ↔
    (p.drop i).state = .up ∧ (p.drop i).queue ≠ [] ∧ ∀ e ∈ p.main.calls, e.2.drop ≠ i := by
  simp [Part.eligible, Part.dropInCall, and_assoc]

theorem eligible_of_chosen {i : Nat} (chosen : p.chooseDrop = some i) : i < 96 ∧ p.eligible i = true := by
  obtain ⟨k, -, rfl⟩ := List.mem_map.1 (List.mem_of_find?_eq_some chosen)
  exact ⟨Nat.mod_lt _ (by decide), List.find?_some chosen⟩

/-- The part when the chosen drop's request has been taken, with the pool's flag of step 13 (R88, R89, R107). -/
def requestTaken (p : Part) (i : Nat) (full : Bool) : Part :=
  ⟨p.ret, { p.main with
    drops := Table.set .unconfigured p.main.drops i { p.drop i with queue := (p.drop i).queue.tail }
    arbiter := i, poolFull := p.main.poolFull || full }⟩

theorem requestTaken_eq (p : Part) (i : Nat) (full : Bool) :
    (if full then (p.takeRequest i).raisePoolFull else p.takeRequest i) = requestTaken p i full := by
  cases full with
  | true => simp [requestTaken, Part.takeRequest, Part.raisePoolFull, Part.setDrop, Part.withDrops]
  | false => simp [requestTaken, Part.takeRequest, Part.setDrop, Part.withDrops]

theorem requestTaken_drop_self (p : Part) (i : Nat) (full : Bool) :
    (requestTaken p i full).drop i = { p.drop i with queue := (p.drop i).queue.tail } := get_set_self _ _ _ _

theorem requestTaken_drop_ne (p : Part) {i j : Nat} (other : j ≠ i) (full : Bool) :
    (requestTaken p i full).drop j = p.drop j := get_set_ne _ _ _ _ _ other

theorem decideAt_eq {i : Nat} {r : Request} {rest : List Request} (queue : (p.drop i).queue = r :: rest) {v : Verdict}
    {full : Bool} (verdict : p.verdict (p.drop i) (p.dropConfig i) r = (v, full)) :
    p.decideAt i = (requestTaken p i full).enact i (p.dropConfig i) v := by
  unfold Part.decideAt
  rw [queue]
  dsimp only
  rw [verdict, requestTaken_eq]

theorem decision_eq {i : Nat} (chosen : p.chooseDrop = some i) {r : Request} {rest : List Request}
    (queue : (p.drop i).queue = r :: rest) {v : Verdict} {full : Bool}
    (verdict : p.verdict (p.drop i) (p.dropConfig i) r = (v, full)) :
    p.decision = (requestTaken p i full).enact i (p.dropConfig i) v := by
  rw [Part.decision, chosen]
  exact decideAt_eq queue verdict

/-! ## Call numbers (R115) -/

theorem numberAt_following (n : Half) (k : Nat) : numberAt (followingNumber n) k = numberAt n (k + 1) := by
  induction k with
  | zero => rfl
  | succ k ih => rw [numberAt, ih]; rfl

theorem followingNumber_toNat (n : Half) : (followingNumber n).toNat = n.toNat % 65535 + 1 := by
  unfold followingNumber
  split
  next last => subst last; rfl
  next => bv_omega

/-- Numbers run through 1 to 65535 in turn. -/
theorem numberAt_toNat (n : Half) (k : Nat) : (numberAt n (k + 1)).toNat = (n.toNat + k) % 65535 + 1 := by
  induction k with
  | zero => exact followingNumber_toNat n
  | succ k ih =>
    rw [numberAt, followingNumber_toNat, ih]
    omega

theorem numberAt_ne_zero (n : Half) (k : Nat) : numberAt n (k + 1) ≠ 0 := by
  intro zero
  have := numberAt_toNat n k
  rw [zero] at this
  cases this

theorem numberAt_inj {n : Half} {j k : Nat} (small : j < 65535) (small' : k < 65535)
    (same : numberAt n (j + 1) = numberAt n (k + 1)) : j = k := by
  have := congrArg BitVec.toNat same
  rw [numberAt_toNat, numberAt_toNat] at this
  omega

theorem callNumbered_isSome_iff {n : Half} : (p.callNumbered n).isSome = true ↔ ∃ e ∈ p.main.calls, e.2.number = n := by
  simp [Part.callNumbered]

/-- The search passes over held numbers, and stops at one that is not held unless its tries are spent. -/
theorem numberFrom_eq (p : Part) (tries : Nat) (n : Half) : ∃ k ≤ tries, p.numberFrom tries n = numberAt n (k + 1) ∧
    (∀ j < k, (p.callNumbered (numberAt n (j + 1))).isSome = true) ∧
    (k < tries → (p.callNumbered (numberAt n (k + 1))).isSome = false) := by
  induction tries generalizing n with
  | zero => exact ⟨0, Nat.le_refl _, rfl, fun j lt => absurd lt (Nat.not_lt_zero j), fun lt => absurd lt (Nat.lt_irrefl 0)⟩
  | succ tries ih =>
    rw [Part.numberFrom]
    split
    next held =>
      obtain ⟨k, le, found, passed, stopped⟩ := ih (numberAfter n)
      have shift : ∀ j, numberAt (numberAfter n) j = numberAt n (j + 1) := numberAt_following n
      rw [shift] at found stopped
      refine ⟨k + 1, Nat.succ_le_succ le, found, fun j lt => ?_, fun lt => stopped (Nat.lt_of_succ_lt_succ lt)⟩
      cases j with
      | zero => exact held
      | succ j => exact shift (j + 1) ▸ passed j (Nat.lt_of_succ_lt_succ lt)
    next free =>
      exact ⟨0, Nat.zero_le _, rfl, fun j lt => absurd lt (Nat.not_lt_zero j), fun _ => Bool.eq_false_iff.2 free⟩

/-- A table with its keys in a range has no more entries than the range has numbers. -/
theorem length_le_of_keys {α : Type} {t : Table α} (sorted : Table.sorted t) {last : Nat} (keys : keysWithin t 0 last) :
    t.length ≤ last + 1 := by
  have nodup : (t.map Prod.fst).Nodup := List.pairwise_map.2 (sorted.imp fun h => Nat.ne_of_lt h)
  have sub : t.map Prod.fst ⊆ List.range (last + 1) := fun k mem => by
    obtain ⟨e, there, rfl⟩ := List.mem_map.1 mem
    exact List.mem_range.2 (Nat.lt_succ_of_le (keys e there).2)
  have := (List.subperm_of_subset nodup sub).length_le
  rwa [List.length_map, List.length_range] at this

theorem length_put_of_none {α : Type} {t : Table α} (sorted : Table.sorted t) {k : Nat} (free : Table.lookup t k = none)
    (v : α) : (Table.put t k v).length = t.length + 1 := by
  have count := countP_put sorted (fun _ => true) k v
  rw [free] at count
  simpa [tally] using count

/-- With a slot FREE, at most 31 calls are in flight. -/
theorem calls_lt_of_free {m : Main} (tables : MainTables m) {slot : Nat} (place : slot < 32)
    (free : Table.lookup m.calls slot = none) : m.calls.length < 32 := by
  obtain ⟨-, ⟨sorted, keys⟩, -⟩ := tables
  cases listed : m.calls with
  | nil => decide
  | cons e rest =>
    rw [← listed]
    have within := keysWithin_put keys ⟨Nat.zero_le slot, Nat.le_of_lt_succ place⟩ e.2
    have := length_le_of_keys (sorted_put sorted slot e.2) within
    rw [length_put_of_none sorted free] at this
    exact this

/-- The next number is not 0, no call in flight holds it, and it is the first such after the counter. -/
theorem nextNumber_spec (few : p.main.calls.length < 32) : ∃ k, p.nextNumber = numberAt p.main.counter (k + 1) ∧
    (∀ j < k, ∃ e ∈ p.main.calls, e.2.number = numberAt p.main.counter (j + 1)) ∧
    ∀ e ∈ p.main.calls, e.2.number ≠ p.nextNumber := by
  obtain ⟨k, le, found, passed, stopped⟩ := numberFrom_eq p Config.callSlots p.main.counter
  have held : ∀ j < k, ∃ e ∈ p.main.calls, e.2.number = numberAt p.main.counter (j + 1) :=
    fun j lt => callNumbered_isSome_iff.1 (passed j lt)
  have early : k < 32 := by
    refine Nat.lt_of_le_of_ne le fun spent => ?_
    subst spent
    have nodup : ((List.range 32).map fun j => numberAt p.main.counter (j + 1)).Nodup := by
      refine List.Nodup.map_on (fun a ha b hb same => ?_) List.nodup_range
      rw [List.mem_range] at ha hb
      exact numberAt_inj (by omega) (by omega) same
    have sub : ((List.range 32).map fun j => numberAt p.main.counter (j + 1)) ⊆
        p.main.calls.map fun e => e.2.number := fun n mem => by
      obtain ⟨j, lt, rfl⟩ := List.mem_map.1 mem
      obtain ⟨e, there, number⟩ := held j (List.mem_range.1 lt)
      exact List.mem_map.2 ⟨e, there, number⟩
    have := (List.subperm_of_subset nodup sub).length_le
    rw [List.length_map, List.length_map, List.length_range] at this
    omega
  refine ⟨k, found, held, fun e mem same => ?_⟩
  have free := stopped early
  rw [← found, Bool.eq_false_iff, ne_eq, callNumbered_isSome_iff] at free
  exact free ⟨e, mem, same⟩

theorem nextNumber_ne_zero (p : Part) : p.nextNumber ≠ 0 := by
  obtain ⟨k, -, found, -⟩ := numberFrom_eq p Config.callSlots p.main.counter
  rw [Part.nextNumber, found]
  exact numberAt_ne_zero _ _

/-! ## The placement step (R109, R113, R116) -/

theorem freeSlot_eq_some {slot : Nat} : p.freeSlot = some slot ↔
    slot < 32 ∧ Table.lookup p.main.calls slot = none ∧ ∀ k < slot, Table.lookup p.main.calls k ≠ none := by
  rw [Part.freeSlot, List.find?_range_eq_some]
  simp only [Option.isNone_iff_eq_none, List.mem_range, Bool.not_eq_eq_eq_not, Bool.not_true, Option.isNone_eq_false_iff,
    Option.isSome_iff_ne_none]
  exact ⟨fun ⟨free, place, first⟩ => ⟨place, free, first⟩, fun ⟨place, free, first⟩ => ⟨free, place, first⟩⟩

/-- The pool after a placement: the claimed ticket linked, or a PENDING one at the newest end (R138, R141). -/
def placedTickets (tickets : List Ticket) (pl : Placement) (l : CallLink) : List Ticket :=
  match pl.claim with
  | some t => tickets.map fun u => if u = t then claimedTicket l u else u
  | none =>
    match pl.newTicket, pl.badge with
    | some (landing, second, dest), some b => tickets ++ [⟨b, landing, second, dest, .pending l⟩]
    | _, _ => tickets

theorem ticketFor_eq (p : Part) (pl : Placement) (l : CallLink) :
    p.ticketFor pl l = p.withTickets (placedTickets p.main.tickets pl l) := by
  unfold Part.ticketFor placedTickets
  cases pl.claim with
  | some t => rfl
  | none =>
    cases pl.newTicket with
    | none => rfl
    | some fresh => cases pl.badge <;> rfl

/-- The drop after a placement: the escort admission recorded (R109, item 3). -/
def admittedDrop (d : DropLive) (pl : Placement) : DropLive :=
  { d with escort := if pl.admission then d.escort.map fun w => { w with admitted := w.admitted + 1 } else d.escort }

theorem admitAt_ret (p : Part) (i : Nat) (pl : Placement) : (p.admitAt i pl).ret = p.ret := by
  unfold Part.admitAt
  split <;> rfl

theorem admitAt_main (p : Part) (i : Nat) (pl : Placement) :
    (p.admitAt i pl).main = { p.main with drops := (p.admitAt i pl).main.drops } := by
  unfold Part.admitAt
  split <;> rfl

theorem admitAt_drop_self (p : Part) (i : Nat) (pl : Placement) :
    (p.admitAt i pl).drop i = admittedDrop (p.drop i) pl := by
  unfold Part.admitAt admittedDrop
  split
  · exact drop_setDrop_self _ _ _
  · rfl

theorem admitAt_drop_ne (p : Part) {i j : Nat} (other : j ≠ i) (pl : Placement) :
    (p.admitAt i pl).drop j = p.drop j := by
  unfold Part.admitAt
  split
  · exact drop_setDrop_ne _ other _
  · rfl

theorem reserveFor_main (p : Part) (pl : Placement) : (p.reserveFor pl).main = p.main := by
  unfold Part.reserveFor
  split
  · exact (modCred_spec _ _ _).1
  · rfl

theorem reserveFor_ret (p : Part) (pl : Placement) :
    (p.reserveFor pl).ret = { p.ret with creds := (p.reserveFor pl).ret.creds } := by
  unfold Part.reserveFor
  split
  · exact (modCred_spec _ _ _).2.1
  · rfl

/-- A record with its trip reserved (R20). -/
def reservedRecord (c : Cred) : Cred := { c with reserved := true }

theorem reserveFor_cred (p : Part) (pl : Placement) (b : Badge) : (p.reserveFor pl).cred b =
    if pl.reserve = true ∧ pl.badge = some b then (p.cred b).map reservedRecord else p.cred b := by
  unfold Part.reserveFor
  split
  next b' reserve badge =>
    by_cases same : b = b'
    · subst same
      rw [if_pos ⟨reserve, badge⟩]
      exact (modCred_spec p b _).2.2
    · rw [if_neg (by rw [badge]; rintro ⟨-, h⟩; exact same (Option.some.inj h).symm)]
      exact modCred_cred_ne p same _
  next unreserved => rw [if_neg fun h => unreserved b h.1 h.2]

/-- The part with a placement written but for CALL_PLACE: the trip reserved, the ticket, the admission, and the call in its
slot under its number. -/
def placed (p : Part) (i slot : Nat) (pl : Placement) (c : Call) : Part :=
  ⟨(p.reserveFor pl).ret, { p.main with
    drops := (p.admitAt i pl).main.drops
    tickets := placedTickets p.main.tickets pl ⟨c.number, slot⟩
    calls := Table.put p.main.calls slot c
    counter := c.number }⟩

theorem place_eq {i slot : Nat} (cfg : DropConfig) (pl : Placement) (free : p.freeSlot = some slot) :
    p.place i cfg pl = (placed p i slot pl (p.callOf i cfg pl)).send (placeFrame (p.callOf i cfg pl)) := by
  rw [Part.place, free]
  dsimp only
  rw [Part.fill, ticketFor_eq, reserveFor_main]
  refine congrArg (fun q : Part => q.send _) ?_
  unfold placed
  have ret : (((p.reserveFor pl).withTickets (placedTickets p.main.tickets pl
      ⟨(p.callOf i cfg pl).number, slot⟩)).admitAt i pl).ret = (p.reserveFor pl).ret := admitAt_ret _ _ _
  have main : (((p.reserveFor pl).withTickets (placedTickets p.main.tickets pl
      ⟨(p.callOf i cfg pl).number, slot⟩)).admitAt i pl).main = { p.main with
        drops := (p.admitAt i pl).main.drops
        tickets := placedTickets p.main.tickets pl ⟨(p.callOf i cfg pl).number, slot⟩ } := by
    unfold Part.admitAt
    split
    · simp [reserveFor_main, Part.drop]
    · simp [reserveFor_main]
  rw [ret, main]

theorem placed_drop_self (p : Part) (i slot : Nat) (pl : Placement) (c : Call) :
    (placed p i slot pl c).drop i = admittedDrop (p.drop i) pl := admitAt_drop_self p i pl

theorem placed_drop_ne (p : Part) {i j : Nat} (other : j ≠ i) (slot : Nat) (pl : Placement) (c : Call) :
    (placed p i slot pl c).drop j = p.drop j := admitAt_drop_ne p other pl

end Sys2Proof.Laws
end

section
/-! SUPPORT. A decision (chapter 5) keeps the laws: what its verdict has checked is what the placement needs. -/

namespace Sys2Proof.Laws

open Sys2Proof.Machine Sys2Proof.Safety

variable {p : Part}

/-! ## Room for an answer or a call (R161) -/

/-- An UP drop without a call has taken a request from its queue: what it holds leaves room for one more. -/
structure Roomy (p : Part) (i : Nat) : Prop where
  up : (p.drop i).state = .up
  idle : busy p.main i = false
  bound : loadOf false (p.drop i) + 1 ≤ Config.answerList
  polls : ∀ l c, (p.panelLink l).poll = some c → dropIndex l c.address = i → c.answer = none →
    loadOf false (p.drop i) + 1 ≤ 3

theorem Lawful.requestTaken (h : Lawful p) {i : Nat} (place : i < 96) (eligible : p.eligible i = true) (full : Bool) :
    Lawful (requestTaken p i full) ∧ Roomy (requestTaken p i full) i := by
  obtain ⟨up, waiting, idle⟩ := eligible_iff.1 eligible
  have free : busy p.main i = false := by simpa [busy] using idle
  obtain ⟨r, rest, queue⟩ := List.exists_cons_of_ne_nil waiting
  have sound := h.core.panels.sound i
  have polls := h.core.panels.polls
  have drop := requestTaken_drop_self p i full
  have load : loadOf false ((Laws.requestTaken p i full).drop i) + 1 = loadOf (busy p.main i) (p.drop i) := by
    rw [drop, free]
    unfold loadOf
    rw [queue]
    simp only [List.tail_cons, List.length_cons]
    omega
  constructor
  · have eases : Eases (busy p.main i) (busy p.main i) (p.drop i) { p.drop i with queue := (p.drop i).queue.tail } := by
      refine ⟨rfl, by simp, ?_, fun _ => id, fun down => absurd up down⟩
      unfold loadOf
      simp only [List.length_tail]
      omega
    have eased := h.easeDrop (Nat.le_of_lt_succ place) eases
    obtain ⟨-, calls, sent, tickets, limits⟩ := eased.main.limits
    exact ⟨eased.ret, { eased.main with limits := ⟨place, calls, sent, tickets, limits⟩ }, eased.intact⟩
  · refine ⟨by rw [drop]; exact up, free, load ▸ sound.bound, fun l c outstanding same silent => ?_⟩
    rw [load]
    exact same ▸ (polls l c outstanding).room silent

/-- What a roomy drop becomes when it takes one more answer or call. -/
theorem Roomy.sound {i : Nat} (room : Roomy p i) (h : PanelsLawful p) {d : DropLive} {calling : Bool} (state : d.state = .up)
    (queue : d.queue = (p.drop i).queue) (load : loadOf calling d ≤ loadOf false (p.drop i) + 1)
    (head : ∀ e, (p.drop i).answers.head? = some e → d.answers.head? = some e) :
    DropSound (configured p.ret i) calling d ∧
      ∀ l c, (p.panelLink l).poll = some c → dropIndex l c.address = i → PollSound calling c d := by
  have before := h.sound i
  have live : configured p.ret i = true := configured_of_live before fun same => by
    have up := room.up
    rw [same] at up
    cases up
  constructor
  · exact { live := fun _ same => by rw [state] at same; cases same
            dead := fun off => by rw [live] at off; cases off
            idle := fun down => absurd state down
            queue := queue ▸ before.queue
            bound := load.trans room.bound }
  · intro l c outstanding same
    have was := h.polls l c outstanding
    rw [same] at was
    exact ⟨was.place, fun a carries _ => head _ (was.carries a carries room.up), fun silent =>
      load.trans (room.polls l c outstanding same silent)⟩

theorem Lawful.tell (h : Lawful p) {i : Nat} (place : i < 96) (room : Roomy p i) (a : Answer) : Lawful (p.tell i a) := by
  rw [tell_spec, if_pos room.up]
  have load : loadOf (busy p.main i) { p.drop i with answers := (p.drop i).answers ++ [⟨a, false⟩] } ≤
      loadOf false (p.drop i) + 1 := by
    rw [room.idle]
    simp only [loadOf, List.length_append, List.length_singleton]
    omega
  obtain ⟨sound, polls⟩ := room.sound h.core.panels (d := { p.drop i with answers := (p.drop i).answers ++ [⟨a, false⟩] })
    room.up rfl load fun e head => by
      obtain ⟨rest, answers⟩ := List.head?_eq_some_iff.1 head
      rw [answers]
      rfl
  exact h.withPanels (h.core.panels.setDrop (Nat.le_of_lt_succ place) sound polls) rfl rfl

/-! ## What a verdict has checked -/

/-- What the checks of a decision have found of the part where they placed a call. -/
structure Placeable (p : Part) (pl : Placement) : Prop where
  link : p.main.link = .up
  group : p.mode pl.group.toNat ≠ .recalled
  holder : ∀ b, pl.badge = some b → p.badgeInCall b = false ∧ ∃ c ∈ p.cred b, entitles p.ret c
  reserve : pl.reserve = true → ∃ b c, pl.badge = some b ∧ p.cred b = some c ∧ c.quota ≠ none ∧ c.state = .active
  newTicket : ∀ l g d, pl.newTicket = some (l, g, d) → p.mode g.toNat ≠ .recalled ∧ p.main.tickets.length < Config.tickets
  claim : ∀ t, pl.claim = some t → pl.badge = some t.badge ∧ t.state.isIssued = true

/-- What step 3 has found of a holder (R92). -/
structure Admitted (p : Part) (b : Badge) (c : Cred) : Prop where
  found : p.cred b = some c
  entitled : entitles p.ret c
  idle : p.badgeInCall b = false

theorem link_of_served {groups : List Byte} (h : p.serviceRefusal groups = none) : p.main.link = .up := by
  unfold Part.serviceRefusal at h
  split at h
  · cases h
  next up => exact not_not.1 up

theorem not_recalled_of_open {groups : List Byte} {security : Bool} (h : p.modeDenial groups security = none) {g : Byte}
    (mem : g ∈ groups) : p.mode g.toNat ≠ .recalled := by
  unfold Part.modeDenial at h
  split at h
  · cases h
  next clear => exact fun recalled => clear (List.any_eq_true.2 ⟨g, mem, by simp [recalled]⟩)

/-- A test that gives a reason where it fails has not failed where none is given. -/
theorem of_ite_eq_none {α : Type} {P : Prop} [Decidable P] {a : α} {o : Option α}
    (h : (if P then some a else o) = none) : ¬P ∧ o = none := by
  split at h
  · cases h
  next clear => exact ⟨clear, h⟩

theorem admitted_of_credentialDenial {b : Badge} {c : Cred} (found : p.cred b = some c)
    (h : p.credentialDenial b c = none) : Admitted p b c := by
  unfold Part.credentialDenial at h
  obtain ⟨active, rest⟩ := of_ite_eq_none h
  obtain ⟨live, rest⟩ := of_ite_eq_none rest
  obtain ⟨-, rest⟩ := of_ite_eq_none rest
  obtain ⟨-, rest⟩ := of_ite_eq_none rest
  obtain ⟨idle, -⟩ := of_ite_eq_none rest
  have live : p.tenantLive c.tenant = true := by simpa using live
  exact ⟨found, ⟨active, (tenantLive_iff p c.tenant).1 live⟩, Bool.eq_false_iff.2 idle⟩

theorem placeable_of_claimVerdict {b : Badge} {c : Cred} {t : Ticket} (admitted : Admitted p b c) (badge : t.badge = b)
    (issued : t.state.isIssued = true) {pl : Placement} (h : p.claimVerdict b c t = .place pl) : Placeable p pl := by
  unfold Part.claimVerdict at h
  split at h
  · cases h
  next served =>
    split at h
    · cases h
    next opened =>
      split at h
      · cases h
      · cases h
        refine ⟨link_of_served served, not_recalled_of_open opened List.mem_cons_self, fun b' same => ?_, nofun, nofun,
          fun u same => ?_⟩
        · obtain rfl : b = b' := Option.some.inj same
          exact ⟨admitted.idle, c, admitted.found, admitted.entitled⟩
        · obtain rfl : t = u := Option.some.inj same
          exact ⟨congrArg some badge.symm, issued⟩

/-- A trip that is placed has passed the tests of service and mode for each of its groups. -/
theorem trip_of_placed {d : DropLive} {cfg : DropConfig} {who : Holder} {route : Route} {dest : Byte} {pl : Placement}
    (h : (p.tripVerdict d cfg who route dest).1 = .place pl) : p.main.link = .up ∧
      (∀ g ∈ route.groups, p.mode g.toNat ≠ .recalled) ∧ pl = p.placement d who route dest := by
  unfold Part.tripVerdict at h
  split at h
  · cases h
  next served =>
    split at h
    · cases h
    next opened =>
      refine ⟨link_of_served served, fun g mem => not_recalled_of_open opened mem, ?_⟩
      split at h
      · cases h
      · split at h
        · cases h
        · split at h
          · cases h
          · split at h
            · cases h
            · split at h
              · cases h
              · exact (Verdict.place.inj h).symm

theorem placeable_of_ordinaryVerdict {d : DropLive} {cfg : DropConfig} {landing : Option Byte} {who : Holder}
    (holder : ∀ b c, who = some (b, c) → Admitted p b c ∧ c.state ≠ .exhausted) {pl : Placement}
    (h : (p.ordinaryVerdict d cfg landing who).1 = .place pl) : Placeable p pl := by
  unfold Part.ordinaryVerdict at h
  split at h
  · cases h
  next dest _ =>
    split at h
    · cases h
    · split at h
      · cases h
      next route _ =>
        obtain ⟨link, modes, rfl⟩ := trip_of_placed h
        have first : route.first ∈ route.groups := by unfold Route.groups; split <;> simp
        refine ⟨link, modes _ first, fun b badge => ?_, fun reserve => ?_, fun l g e fresh => ?_, nofun⟩
        · obtain ⟨⟨b', c⟩, rfl, rfl⟩ := Option.map_eq_some_iff.1 badge
          obtain ⟨admitted, -⟩ := holder b' c rfl
          exact ⟨admitted.idle, c, admitted.found, admitted.entitled⟩
        · cases who with
          | none => cases reserve
          | some holding =>
            obtain ⟨b, c⟩ := holding
            obtain ⟨admitted, charged⟩ := holder b c rfl
            refine ⟨b, c, rfl, admitted.found, Option.isSome_iff_ne_none.1 reserve, ?_⟩
            have awake := admitted.entitled.1
            cases state : c.state with
            | active => rfl
            | suspended => exact absurd state awake
            | exhausted => exact absurd state charged
        · rw [placement_eq] at fresh
          dsimp only at fresh
          split at fresh
          next fits =>
            obtain ⟨⟨l', g'⟩, transfer, same⟩ := Option.map_eq_some_iff.1 fresh
            obtain ⟨rfl, rfl, rfl⟩ : l' = l ∧ g' = g ∧ dest = e := by simpa using same
            refine ⟨modes _ (by simp [Route.groups, transfer]), ?_⟩
            have room := fits.2
            rw [poolIsFull_eq_decide, decide_eq_false_iff_not] at room
            by_contra full
            exact room ⟨by rw [transfer]; rfl, fits.1, Nat.not_lt.1 full⟩
          next => cases fresh

theorem placeable_of_badgeVerdict {d : DropLive} {cfg : DropConfig} {b : Badge} {landing : Option Byte} {pl : Placement}
    (h : (p.badgeVerdict d cfg b landing).1 = .place pl) : Placeable p pl := by
  unfold Part.badgeVerdict at h
  split at h
  · cases h
  · split at h
    · cases h
    next c found =>
      split at h
      · cases h
      next denied =>
        have admitted := admitted_of_credentialDenial found denied
        split at h
        next t claims =>
          unfold Part.claimTicket at claims
          split at claims
          · have test := List.find?_some claims
            simp only [claimable, Bool.and_eq_true, decide_eq_true_eq] at test
            obtain ⟨⟨⟨⟨badge, issued⟩, -⟩, -⟩, -⟩ := test
            exact placeable_of_claimVerdict admitted badge issued h
          · cases claims
        · split at h
          · cases h
          next charged =>
            refine placeable_of_ordinaryVerdict (fun b' c' same => ?_) h
            obtain ⟨rfl, rfl⟩ : b = b' ∧ c = c' := by simpa using same
            exact ⟨admitted, charged⟩

theorem placeable_of_verdict {d : DropLive} {cfg : DropConfig} {r : Request} {pl : Placement}
    (h : (p.verdict d cfg r).1 = .place pl) : Placeable p pl := by
  unfold Part.verdict at h
  split at h
  · exact placeable_of_ordinaryVerdict (fun b c same => by cases same) h
  · split at h
    · cases h
    · exact placeable_of_badgeVerdict h

end Sys2Proof.Laws
end

section
/-! SUPPORT. The placement step (R109) keeps the laws, and so does every decision. -/

namespace Sys2Proof.Laws

open Sys2Proof.Machine Sys2Proof.Safety

variable {p : Part}

/-! ## A call put in a FREE slot -/

theorem mem_put_of_none {α : Type} {t : Table α} (sorted : Table.sorted t) {k : Nat} (free : Table.lookup t k = none)
    (v : α) {e : Nat × α} : e ∈ Table.put t k v ↔ e = (k, v) ∨ e ∈ t := by
  refine ⟨mem_put, fun there => ?_⟩
  refine mem_of_lookup ?_
  rcases there with rfl | mem
  · exact lookup_put_self t k v
  · have found := lookup_of_mem sorted mem
    rw [lookup_put_ne _ _ _ _ fun same => by rw [same, free] at found; cases found]
    exact found

theorem busy_put {m m' : Main} (sorted : Table.sorted m.calls) {slot : Nat} (free : Table.lookup m.calls slot = none)
    {c : Call} (calls : m'.calls = Table.put m.calls slot c) (i : Nat) :
    busy m' i = true ↔ c.drop = i ∨ busy m i = true := by
  simp only [busy_iff, calls, mem_put_of_none sorted free, or_and_right, exists_or, exists_eq_left]

theorem chargesTrip_put {m m' : Main} (sorted : Table.sorted m.calls) {slot : Nat} (free : Table.lookup m.calls slot = none)
    {c : Call} (calls : m'.calls = Table.put m.calls slot c) (b : Badge) :
    chargesTrip m' b = true ↔ (c.charge = true ∧ c.badge = some b) ∨ chargesTrip m b = true := by
  simp only [chargesTrip, List.any_eq_true, calls, mem_put_of_none sorted free, or_and_right, exists_or, exists_eq_left,
    Bool.and_eq_true, decide_eq_true_eq]

/-! ## The pool after a placement -/

section
variable {m m' : Main} {slot : Nat}

/-- No ticket is linked to a FREE slot. -/
theorem slot_ne_of_linkAnswered (free : Table.lookup m.calls slot = none) {t : Ticket} (answered : linkAnswered m t)
    {l : CallLink} (link : t.state.link = some l) : l.slot ≠ slot := by
  rintro rfl
  obtain ⟨c, found, -⟩ := answered l link
  rw [free] at found
  cases found

theorem linkAnswered_put (free : Table.lookup m.calls slot = none) {c : Call}
    (calls : m'.calls = Table.put m.calls slot c) {t : Ticket} (answered : linkAnswered m t) : linkAnswered m' t := by
  intro l link
  obtain ⟨d, found, same⟩ := answered l link
  rw [calls, lookup_put_ne _ _ _ _ (slot_ne_of_linkAnswered free answered link)]
  exact ⟨d, found, same⟩

theorem linkAnswered_new {c : Call} (calls : m'.calls = Table.put m.calls slot c) {t : Ticket}
    (link : t.state.link = some ⟨c.number, slot⟩) (badge : c.badge = some t.badge) : linkAnswered m' t := by
  intro l same
  obtain rfl : ⟨c.number, slot⟩ = l := Option.some.inj (link.symm.trans same)
  exact ⟨c, by rw [calls]; exact lookup_put_self _ _ _, rfl, badge⟩

/-- A ticket linked to a call that just took a FREE slot shares its link with no ticket of the pool. -/
theorem link_ne_new (free : Table.lookup m.calls slot = none) {t : Ticket} (answered : linkAnswered m t) (n : Half) :
    t.state.link = none ∨ t.state.link ≠ some ⟨n, slot⟩ := by
  cases link : t.state.link with
  | none => exact .inl rfl
  | some l => exact .inr fun same => slot_ne_of_linkAnswered free answered link (by rw [Option.some.inj same])

end

theorem claimedTicket_issued {t : Ticket} (issued : t.state.isIssued = true) (l : CallLink) :
    ∃ e, t.state = .issued e ∧ claimedTicket l t = { t with state := .claimed e l } := by
  obtain ⟨b, landing, group, dest, state⟩ := t
  cases state with
  | issued e => exact ⟨e, rfl, rfl⟩
  | pending k => cases issued
  | claimed e k => cases issued

theorem mem_placedTickets {tickets : List Ticket} {pl : Placement} {l : CallLink} {t : Ticket}
    (mem : t ∈ placedTickets tickets pl l) : t ∈ tickets ∨
      (∃ u ∈ tickets, pl.claim = some u ∧ t = claimedTicket l u) ∨
      ∃ b landing second dest, pl.badge = some b ∧ pl.newTicket = some (landing, second, dest) ∧
        t = ⟨b, landing, second, dest, .pending l⟩ := by
  unfold placedTickets at mem
  split at mem
  next u claim =>
    obtain ⟨v, there, rfl⟩ := List.mem_map.1 mem
    split
    next same => exact .inr (.inl ⟨v, there, same ▸ claim, rfl⟩)
    next => exact .inl there
  next =>
    split at mem
    next landing second dest b fresh badge =>
      rcases List.mem_append.1 mem with there | new
      · exact .inl there
      · exact .inr (.inr ⟨b, landing, second, dest, badge, fresh, List.mem_singleton.1 new⟩)
    next => exact .inl mem

section
variable (h : Lawful p) {pl : Placement} (ok : Placeable p pl) {slot : Nat} (place : slot < 32)
  (free : Table.lookup p.main.calls slot = none) {c : Call} (badge : c.badge = pl.badge)
include h ok free

theorem distinct_placedTickets (n : Half) : (placedTickets p.main.tickets pl ⟨n, slot⟩).Pairwise Distinct := by
  have distinct := h.main.tickets.2
  have answered := fun t mem => (h.main.tickets.1 t mem).2
  have apart : ∀ t ∈ p.main.tickets, t.state.link = none ∨ t.state.link ≠ some ⟨n, slot⟩ :=
    fun t mem => link_ne_new free (answered t mem) n
  unfold placedTickets
  split
  next u claim =>
    obtain ⟨e, state, claimed⟩ := claimedTicket_issued (ok.claim u claim).2 ⟨n, slot⟩
    have waits : isPending { u with state := .claimed e ⟨n, slot⟩ } = isPending u := by
      simp [isPending, state, TicketState.link]
    refine List.pairwise_map.2 (distinct.imp_of_mem fun {a b} ma mb ab => ?_)
    by_cases first : a = u <;> by_cases second : b = u
    · subst first second
      exact absurd (ab.1.resolve_left fun other => other rfl) fun other => other rfl
    · rw [if_pos first, if_neg second, first, claimed]
      refine ⟨by rw [waits]; exact first ▸ ab.1, ?_⟩
      rcases apart b mb with none | other
      · exact .inr (by rw [none]; nofun)
      · exact .inr (Ne.symm other)
    · rw [if_neg first, if_pos second, second, claimed]
      exact ⟨by rw [waits]; exact second ▸ ab.1, apart a ma⟩
    · rw [if_neg first, if_neg second]
      exact ab
  next =>
    split
    next landing second dest b fresh badge =>
      refine List.pairwise_append.2 ⟨distinct, List.pairwise_singleton _ _, fun t mem u new => ?_⟩
      obtain rfl := List.mem_singleton.1 new
      refine ⟨?_, apart t mem⟩
      by_cases same : t.badge = b
      · refine .inr fun waits => ?_
        obtain ⟨l, pending⟩ := (isPending_iff t).1 (waits.trans rfl)
        obtain ⟨d, found, -, names⟩ := answered t mem l (by rw [pending]; rfl)
        have idle := (ok.holder b badge).1
        refine absurd (List.any_eq_true.2 ⟨_, mem_of_lookup found, ?_⟩) (Bool.eq_false_iff.1 idle)
        simp [names, same]
      · exact .inl same
    next => exact distinct

include badge

theorem ticketsEntitled_placed (i : Nat) : TicketsEntitled (placed p i slot pl c).ret (placed p i slot pl c).main := by
  have entitled : ∀ b : Badge, (∃ v ∈ credAt p.ret b, entitles p.ret v) →
      ∃ v ∈ credAt (p.reserveFor pl).ret b, entitles (p.reserveFor pl).ret v := fun b before =>
    entitles_of_rewritten (f := reservedRecord) (fun _ => id) (fun _ => rfl) (by rw [reserveFor_ret])
      (reserveFor_cred p pl b) before
  have calls : (placed p i slot pl c).main.calls = Table.put p.main.calls slot c := rfl
  refine ⟨fun t mem => ?_, distinct_placedTickets h ok free c.number⟩
  rcases mem_placedTickets mem with there | ⟨u, there, claim, rfl⟩ | ⟨b, landing, second, dest, names, fresh, rfl⟩
  · obtain ⟨holds, answered⟩ := h.main.tickets.1 t there
    exact ⟨entitled _ holds, linkAnswered_put free calls answered⟩
  · obtain ⟨names, issued⟩ := ok.claim u claim
    obtain ⟨e, -, claimed⟩ := claimedTicket_issued issued ⟨c.number, slot⟩
    rw [claimed]
    exact ⟨entitled _ (h.main.tickets.1 u there).1, linkAnswered_new calls rfl (badge.trans names)⟩
  · exact ⟨entitled _ (ok.holder b names).2, linkAnswered_new calls rfl (badge.trans names)⟩

end

theorem placedTickets_length {pl : Placement} (ok : Placeable p pl) (full : p.main.tickets.length ≤ Config.tickets)
    (l : CallLink) : (placedTickets p.main.tickets pl l).length ≤ Config.tickets := by
  unfold placedTickets
  split
  · rwa [List.length_map]
  · split
    next fresh _ =>
      rw [List.length_append, List.length_singleton]
      exact (ok.newTicket _ _ _ fresh).2
    next => exact full

/-! ## The record of a placed trip -/

theorem reservedRecord_sound {v : Cred} (h : CredSound v) (charged : v.quota ≠ none) (active : v.state = .active) :
    CredSound (reservedRecord v) :=
  ⟨h.count, h.grants, h.inStep.1, h.inStep.2.1, fun _ => ⟨charged, fun zero => h.inStep.1 zero active⟩⟩

theorem storesLawful_reserveFor (h : StoresLawful p.ret) {pl : Placement} (ok : Placeable p pl) :
    StoresLawful (p.reserveFor pl).ret := by
  unfold Part.reserveFor
  split
  next b reserve badge =>
    obtain ⟨b', v, names, found, charged, active⟩ := ok.reserve reserve
    obtain rfl : b = b' := Option.some.inj (badge.symm.trans names)
    rw [Part.reserve, Part.modCred, found]
    exact h.rewrite found rfl (reservedRecord_sound (h.records b v found) charged active)
  next => exact h

/-! ## The placement -/

/-- What a placement has of the call it puts in a FREE slot. -/
structure Fresh (p : Part) (i slot : Nat) (pl : Placement) (c : Call) : Prop where
  place : slot < 32
  free : Table.lookup p.main.calls slot = none
  nonzero : c.number ≠ 0
  unheld : ∀ e ∈ p.main.calls, e.2.number ≠ c.number
  drop : c.drop = i
  badge : c.badge = pl.badge
  group : c.group = pl.group
  charge : c.charge = pl.reserve

theorem fresh_callOf (tables : MainTables p.main) {i slot : Nat} (cfg : DropConfig) (pl : Placement)
    (free : p.freeSlot = some slot) : Fresh p i slot pl (p.callOf i cfg pl) := by
  obtain ⟨place, none, -⟩ := freeSlot_eq_some.1 free
  obtain ⟨-, -, -, unheld⟩ := nextNumber_spec (calls_lt_of_free tables place none)
  exact ⟨place, none, nextNumber_ne_zero p, unheld, rfl, rfl, rfl, rfl⟩

theorem placed_configs (p : Part) (i slot : Nat) (pl : Placement) (c : Call) :
    (placed p i slot pl c).ret.drops = p.ret.drops := by
  change (p.reserveFor pl).ret.drops = p.ret.drops
  rw [reserveFor_ret]

section
variable (h : Lawful p) {i slot : Nat} {pl : Placement} {c : Call} (fresh : Fresh p i slot pl c)
include h fresh

theorem panelsLawful_placed (place : i < 96) (room : Roomy p i) : PanelsLawful (placed p i slot pl c) := by
  have panels := h.core.panels
  have sorted := h.main.tables.2.1.1
  have calls : (placed p i slot pl c).main.calls = Table.put p.main.calls slot c := rfl
  have self : busy (placed p i slot pl c).main i = true := (busy_put sorted fresh.free calls i).2 (.inl fresh.drop)
  have other : ∀ j, j ≠ i → busy (placed p i slot pl c).main j = busy p.main j := fun j ne => by
    rw [Bool.eq_iff_iff, busy_put sorted fresh.free calls, fresh.drop]
    exact or_iff_right (Ne.symm ne)
  obtain ⟨sound, polls⟩ := room.sound (d := admittedDrop (p.drop i) pl) (calling := true) panels room.up rfl
    (by simp only [loadOf, admittedDrop, tally, if_true]; simp; omega) fun _ => id
  have form : DropsForm (p.admitAt i pl).main.drops := by
    unfold Part.admitAt
    split
    · exact dropsForm_setDrop panels.drops (Nat.le_of_lt_succ place) _
    · exact panels.drops
  have ret : (placed p i slot pl c).ret.drops = p.ret.drops := placed_configs p i slot pl c
  have config : ∀ j, configured (placed p i slot pl c).ret j = configured p.ret j := fun j => by
    rw [configured, ret, configured]
  refine ⟨ret ▸ panels.sorted, form, panels.links, fun j => ?_, fun l e outstanding => ?_⟩
  · rw [config]
    by_cases same : j = i
    · subst same
      rw [placed_drop_self, self]; exact sound
    · rw [placed_drop_ne p same, other j same]; exact panels.sound j
  · by_cases same : dropIndex l e.address = i
    · rw [same, placed_drop_self, self]
      exact polls l e outstanding same
    · rw [placed_drop_ne p same, other _ same]
      exact panels.polls l e outstanding

theorem callsApart_placed (ok : Placeable p pl) (room : Roomy p i) :
    CallsApart (placed p i slot pl c).ret (placed p i slot pl c).main := by
  obtain ⟨apart, sound⟩ := h.main.calls
  have sorted := h.main.tables.2.1.1
  have ret : (placed p i slot pl c).ret.drops = p.ret.drops := placed_configs p i slot pl c
  have idle : ∀ e ∈ p.main.calls, e.2.drop ≠ i := by simpa [busy] using room.idle
  constructor
  · refine pairwise_put sorted (fun a b => ?_) apart fun e mem _ => ⟨fresh.unheld e mem, ?_, ?_⟩
    · rintro ⟨number, drop, badge⟩
      refine ⟨number.symm, drop.symm, ?_⟩
      rcases badge with absent | other
      · by_cases same : b.2.badge = none
        · exact .inl same
        · exact .inr (by rw [absent]; exact same)
      · exact .inr (Ne.symm other)
    · rw [fresh.drop]; exact idle e mem
    · cases names : e.2.badge with
      | none => exact .inl rfl
      | some b =>
        refine .inr fun same => ?_
        have free := (ok.holder b (fresh.badge.symm.trans same.symm)).1
        exact absurd (List.any_eq_true.2 ⟨e, mem, by simp [names]⟩) (Bool.eq_false_iff.1 free)
  · intro e mem
    rw [ret]
    rcases (mem_put_of_none sorted fresh.free c).1 mem with rfl | there
    · refine ⟨fresh.nonzero, ?_⟩
      have live := configured_of_live (h.core.panels.sound i) fun same => by
        have up := room.up
        rw [same] at up
        cases up
      rw [fresh.drop]; exact live
    · exact sound e there

theorem tripsReserved_placed (ok : Placeable p pl) :
    TripsReserved (placed p i slot pl c).ret (placed p i slot pl c).main := by
  have sorted := h.main.tables.2.1.1
  have calls : (placed p i slot pl c).main.calls = Table.put p.main.calls slot c := rfl
  obtain ⟨trips, charged⟩ := (tripsReserved_iff h.stores.creds).1 h.main.trips
  refine (tripsReserved_iff (storesLawful_reserveFor h.stores ok).creds).2 ⟨fun b v found => ?_, fun e mem charge => ?_⟩
  · have rewritten := reserveFor_cred p pl b
    rw [show (p.reserveFor pl).cred b = some v from found] at rewritten
    rw [Bool.eq_iff_iff, chargesTrip_put sorted fresh.free calls, fresh.charge, fresh.badge]
    split at rewritten
    next here =>
      obtain ⟨w, -, rfl⟩ := Option.map_eq_some_iff.1 rewritten.symm
      exact iff_of_true rfl (.inl here)
    next elsewhere =>
      rw [trips b v rewritten.symm]
      exact (or_iff_right elsewhere).symm
  · rcases (mem_put_of_none sorted fresh.free c).1 mem with rfl | there
    · obtain ⟨b, -, names, -⟩ := ok.reserve (fresh.charge.symm.trans charge)
      change c.badge ≠ none
      rw [fresh.badge, names]
      nofun
    · exact charged e there charge

theorem recallClears_placed (ok : Placeable p pl) : RecallClears (placed p i slot pl c).main := by
  refine ⟨fun e mem => ?_, fun t mem => ?_⟩
  · rcases (mem_put_of_none h.main.tables.2.1.1 fresh.free c).1 mem with rfl | there
    · change p.mode c.group.toNat ≠ .recalled
      rw [fresh.group]
      exact ok.group
    · exact h.main.recalled.1 e there
  · rcases mem_placedTickets mem with there | ⟨u, there, claim, rfl⟩ | ⟨b, landing, second, dest, names, new, rfl⟩
    · exact h.main.recalled.2 t there
    · obtain ⟨e, -, claimed⟩ := claimedTicket_issued (ok.claim u claim).2 ⟨c.number, slot⟩
      rw [claimed]
      exact h.main.recalled.2 u there
    · exact (ok.newTicket _ _ _ new).1

theorem Lawful.placed (place : i < 96) (room : Roomy p i) (ok : Placeable p pl) : Lawful (placed p i slot pl c) := by
  have stores := storesLawful_reserveFor h.stores ok
  have panels := panelsLawful_placed h fresh place room
  have calls := callsApart_placed h fresh ok room
  have trips := tripsReserved_placed h fresh ok
  have tickets := ticketsEntitled_placed h ok fresh.free fresh.badge i
  have few := calls_lt_of_free h.main.tables fresh.place fresh.free
  have ret := reserveFor_ret p pl
  obtain ⟨overlays, ⟨sorted, keys⟩, -, links, tables⟩ := h.main.tables
  obtain ⟨arbiter, -, queue, full, limits⟩ := h.main.limits
  have bounded := (dropsBounded_iff panels.drops.1 panels.sorted.1).2 panels.sound
  have inStep := (pollsInStep_iff panels.links.1.1).2 panels.polls
  have clears := recallClears_placed h fresh ok
  refine ⟨?_, { tables := ⟨overlays, ⟨sorted_put sorted _ _,
                  keysWithin_put keys ⟨Nat.zero_le _, Nat.le_of_lt_succ fresh.place⟩ _⟩, panels.drops, links, tables⟩
                limits := ⟨arbiter, (length_put_of_none sorted fresh.free c).trans_le few, queue,
                  placedTickets_length ok full _, limits⟩
                overlays := overlaysApart_of_states h.main.overlays fun t => ?_
                drops := bounded
                polls := inStep
                calls := calls
                trips := trips
                tickets := tickets
                modes := ?_
                recalled := clears
                link := ⟨fun down => absurd ok.link down, h.main.link.2⟩
                lines := h.main.lines }, ?_⟩
  · change RetentionLaws (p.reserveFor pl).ret
    rw [ret] at stores ⊢
    exact retentionLaws_withStores h.ret stores
  · change tenantState (p.reserveFor pl).ret t = _
    rw [ret]
  · change ModesHeld (p.reserveFor pl).ret _
    rw [ret]
    exact h.main.modes
  · change (p.reserveFor pl).ret.intact = true
    rw [ret]
    exact h.intact

end

theorem Lawful.place (h : Lawful p) {i : Nat} (here : i < 96) (room : Roomy p i) (cfg : DropConfig) {pl : Placement}
    (ok : Placeable p pl) : Lawful (p.place i cfg pl) := by
  cases free : p.freeSlot with
  | none => rw [Part.place, free]; exact h
  | some slot =>
    rw [place_eq cfg pl free]
    exact (h.placed (fresh_callOf h.main.tables cfg pl free) here room ok).send _

theorem Lawful.decision (h : Lawful p) : Lawful p.decision := by
  cases chosen : p.chooseDrop with
  | none => rw [Part.decision, chosen]; exact h
  | some i =>
    obtain ⟨here, eligible⟩ := eligible_of_chosen chosen
    obtain ⟨r, rest, queue⟩ := List.exists_cons_of_ne_nil (eligible_iff.1 eligible).2.1
    cases verdict : p.verdict (p.drop i) (p.dropConfig i) r with
    | mk v full =>
      rw [decision_eq chosen queue verdict]
      obtain ⟨lawful, room⟩ := h.requestTaken here eligible full
      cases v with
      | answer a => exact lawful.tell here room a
      | place pl =>
        have ok : Placeable p pl := placeable_of_verdict (congrArg Prod.fst verdict)
        exact lawful.place here room _ { ok with }

end Sys2Proof.Laws
end

section
/-! SUPPORT. Power Control (chapter 11) and the calendar's advance keep the laws; and with every command and event taken
through, so does every step. -/

namespace Sys2Proof.Laws

open Sys2Proof.Machine Sys2Proof.Safety

variable {r : Retention} {p : Part} {s : State}

/-! ## The laws of a retention well without entries, and of a main well without them -/

theorem retentionLaws_afterLoss : RetentionLaws .afterLoss :=
  ⟨by decide, by decide, by decide, by decide, by decide⟩

theorem retentionLaws_powered (h : RetentionLaws r) : RetentionLaws r.powered := by
  unfold Retention.powered
  split
  · exact h
  · exact retentionLaws_afterLoss

theorem intact_powered (r : Retention) : r.powered.intact = true := by
  unfold Retention.powered
  split
  next intact => exact intact
  next => rfl

/-! ## The start sequence (R201) -/

theorem credAt_clearReservations (r : Retention) (b : Badge) :
    Table.lookup (clearReservations r.creds) b.toNat = (credAt r b).map releasedRecord := lookup_map releasedRecord r.creds _

theorem sorted_map_values {α β : Type} {t : Table α} (h : Table.sorted t) (f : α → β) :
    Table.sorted (t.map fun e => (e.1, f e.2)) := List.pairwise_map.2 h

theorem keysWithin_map_values {α β : Type} {t : Table α} {low high : Nat} (h : keysWithin t low high) (f : α → β) :
    keysWithin (t.map fun e => (e.1, f e.2)) low high := by
  intro e mem
  obtain ⟨e', there, rfl⟩ := List.mem_map.1 mem
  exact h e' there

theorem storesLawful_clearReservations (h : StoresLawful r) :
    StoresLawful { r with creds := clearReservations r.creds } := by
  have record : ∀ b c, Table.lookup (clearReservations r.creds) b.toNat = some c →
      ∃ w, credAt r b = some w ∧ c = releasedRecord w := fun b c found => by
    rw [credAt_clearReservations] at found
    obtain ⟨w, was, rfl⟩ := Option.map_eq_some_iff.1 found
    exact ⟨w, was, rfl⟩
  have naming : ∀ t, recordsNaming { r with creds := clearReservations r.creds } t = recordsNaming r t := fun t => by
    rw [recordsNaming_eq_countP, recordsNaming_eq_countP]
    exact List.countP_map
  obtain ⟨present, counts, purging, walker, passed⟩ := h.counted
  refine ⟨⟨sorted_map_values h.creds.1 releasedRecord, keysWithin_map_values h.creds.2 releasedRecord⟩, h.tenants,
    (List.length_map _).trans_le h.room, fun b c found => ?_, h.floors,
    ⟨fun b c found => ?_, fun t v found => (counts t v found).trans (naming t).symm, purging, walker,
      fun on b c found => ?_⟩⟩
  · obtain ⟨w, was, rfl⟩ := record b c found
    exact releasedRecord_sound (h.records b w was)
  · obtain ⟨w, was, rfl⟩ := record b c found
    exact present b w was
  · obtain ⟨w, was, rfl⟩ := record b c found
    exact passed on b w was

theorem get_startDrops (t : Table DropConfig) (i : Nat) : Table.get .unconfigured (startDrops t) i =
    if (Table.lookup t i).isSome then .emptied .down else .unconfigured := by
  have listed : Table.lookup (startDrops t) i = (Table.lookup t i).map fun _ => DropLive.emptied .down :=
    lookup_map (fun _ => DropLive.emptied .down) t i
  rw [Table.get, listed]
  cases Table.lookup t i <;> rfl

/-- A main well that has just started, but for its drops. -/
theorem mainTables_fresh : MainTables .fresh := by decide

theorem mainLimits_fresh : MainLimits .fresh := by decide

theorem linkInStep_fresh : LinkInStep .fresh := by decide

theorem coreLawful_begunPart (h : RetentionLaws r) (intact : r.intact = true) : CoreLawful (begunPart r) := by
  have stores := storesLawful_clearReservations (storesLawful_of_retentionLaws h)
  obtain ⟨-, -, -, -, -, -, ⟨sorted, keys⟩, -⟩ := h.tables
  have canonical : Table.canonical .unconfigured (startDrops r.drops) := by
    refine ⟨sorted_map_values sorted fun _ => DropLive.emptied .down, fun e mem => ?_⟩
    obtain ⟨e', -, rfl⟩ := List.mem_map.1 mem
    exact fun same => absurd (congrArg DropLive.state same) (by decide : DropState.down ≠ .unconfigured)
  have form : keysWithin (startDrops r.drops) 0 95 := keysWithin_map_values keys fun _ => DropLive.emptied .down
  obtain ⟨overlays, calls, -, rest⟩ := mainTables_fresh
  exact {
    ret := retentionLaws_withStores h stores
    tables := ⟨overlays, calls, ⟨canonical, form⟩, rest⟩
    limits := mainLimits_fresh
    overlays := ⟨.nil, List.forall_mem_nil _⟩
    drops := (dropsBounded_iff canonical sorted).2 fun i => by
      have read : Table.get .unconfigured (begunPart r).main.drops i = _ := get_startDrops r.drops i
      have config : configured (begunPart r).ret i = (Table.lookup r.drops i).isSome := rfl
      change DropSound (configured (begunPart r).ret i) _ _
      rw [read, config]
      cases Table.lookup r.drops i with
      | none => exact dropSound_emptied rfl
      | some c => exact dropSound_emptied rfl
    polls := List.forall_mem_nil _
    calls := ⟨.nil, List.forall_mem_nil _⟩
    trips := (tripsReserved_iff stores.creds).2 ⟨fun b v found => by
      obtain ⟨w, -, rfl⟩ := Option.map_eq_some_iff.1 ((credAt_clearReservations r b).symm.trans found)
      rfl, List.forall_mem_nil _⟩
    tickets := ⟨List.forall_mem_nil _, .nil⟩
    link := linkInStep_fresh
    lines := List.forall_mem_nil _
    intact := intact }

theorem CoreLawful.startLine (h : CoreLawful p) (levels : Set8) {n : Nat} (place : n < 8) :
    CoreLawful (p.startLine levels n) := by
  unfold Part.startLine
  dsimp only
  split
  next same => exact h.setLine place (by simp [same])
  next other =>
    split
    · exact (h.setLine place (by simp)).withLineStatus _
    · exact h.setLine place (by simp [other])

theorem CoreLawful.foldl (h : CoreLawful p) {f : Part → Nat → Part} {l : List Nat}
    (keeps : ∀ q, CoreLawful q → ∀ n ∈ l, CoreLawful (f q n)) : CoreLawful (l.foldl f p) :=
  List.foldlRecOn l f (motive := CoreLawful) h keeps

theorem CoreLawful.firstPolls (h : CoreLawful p) : CoreLawful p.firstPolls := by
  unfold Part.firstPolls
  exact h.foldl fun _ kept l mem => kept.sendPoll (Nat.le_of_lt_succ (mem_panelLinks.1 mem))

theorem CoreLawful.lined (h : CoreLawful p) (levels : Set8) : CoreLawful (lined p levels) := by
  unfold Laws.lined
  exact h.foldl fun _ kept n mem => kept.startLine levels (mem_eight.1 mem)

theorem CoreLawful.noticeAll (h : CoreLawful p) : CoreLawful p.noticeAll := by
  rw [noticeAll_eq_foldl]
  refine h.foldl fun q kept g _ => ?_
  unfold noticeConfigured
  split
  · exact kept.send _
  · exact kept

theorem CoreLawful.startModes (h : CoreLawful p) : CoreLawful p.startModes := by
  unfold Part.startModes
  exact (h.foldl fun _ kept g mem => kept.putMode (mem_eight.1 mem) _).noticeAll

theorem coreLawful_startSequence (h : RetentionLaws r) (intact : r.intact = true) (levels : Set8) :
    CoreLawful (startSequence r levels) := by
  have begun : CoreLawful (begunPart r).firstPolls := (coreLawful_begunPart h intact).firstPolls
  refine CoreLawful.startModes ?_
  unfold Part.startLines
  exact (begun.lined levels).foldl fun _ kept g _ => kept.latch g

theorem lawful_startSequence (h : RetentionLaws r) (intact : r.intact = true) (levels : Set8) :
    Lawful (startSequence r levels) := by
  have core := coreLawful_startSequence h intact levels
  obtain ⟨latches, modes, phases, groups⟩ := startSequence_spec r levels
  generalize startSequence r levels = q at core phases groups
  have main : q.main = { (linedPart r levels).main with modes := modes, sendQueue := notices q } :=
    congrArg Part.main phases
  have calls : q.main.calls = [] := by rw [main, linedPart_main]; rfl
  have tickets : q.main.tickets = [] := by rw [main, linedPart_main]; rfl
  have latched : q.ret.latches = latches := congrArg (fun q : Part => q.ret.latches) phases
  refine core.lawful (fun g listed => ?_)
    ⟨by rw [calls]; exact List.forall_mem_nil _, by rw [tickets]; exact List.forall_mem_nil _⟩
  obtain ⟨latch, mode⟩ := groups g listed
  refine ⟨mode, fun held => ?_⟩
  rw [latched, latch]
  exact Bool.or_eq_true_iff.2 (.inr held)

/-! ## The outcomes that keep the laws -/

/-- An outcome whose next state, if it has one, satisfies the laws. -/
def Keeps (o : Host.Outcome State Fault Refusal) : Prop := ∀ t, o = .next t → Inv t

theorem keeps_next (h : Inv s) : Keeps (.next s) := fun t same => by
  cases same
  exact h

theorem keeps_whileRunning (h : Inv s) {act : Part → Part} (keeps : ∀ p, Lawful p → Lawful (act p)) :
    Keeps (whileRunning s act) := by
  cases well : s.well with
  | off => rw [whileRunning_off well]; exact keeps_next h
  | qualifying => rw [whileRunning_qualifying well]; exact keeps_next h
  | running m =>
    rw [whileRunning_running well]
    exact keeps_next ((inv_withPart_iff s _).2 (keeps _ ((inv_running_iff well).1 h)))

theorem keeps_command (h : Inv s) {α : Type} {act : α → Part → Taken} (keeps : ∀ f q, Lawful q → Lawful (act f q).part)
    (kind tag : Byte) (body : Body α) : Keeps (command kind tag body act s) :=
  keeps_whileRunning h fun _ lawful => lawful.takeCommand keeps kind tag body

theorem keeps_readOnly (h : Inv s) (view : Part → Results) (kind tag : Byte) (body : Body Unit) :
    Keeps (command kind tag body (readOnly view) s) := keeps_command h (fun _ _ lawful => lawful.readOnly view _) kind tag body

/-! ## The calendar's advance (R53, R54) -/

/-- The laws do not read the time of day, nor where the sweep stands. -/
theorem inv_withRet (h : Inv s) {w : SweepWalker} {k : Calendar} (laws : RetentionLaws { s.ret with sweep := w, calendar := k }) :
    Inv { s with ret := { s.ret with sweep := w, calendar := k } } := by
  refine ⟨laws, ?_⟩
  obtain ⟨-, well⟩ := h
  dsimp only
  split at well
  next =>
    exact ⟨{ well.1 with }, well.2⟩
  next => trivial
  next => trivial

theorem inv_rollDay (h : Inv s) : Inv { s with ret := s.ret.rollDay } := by
  obtain ⟨-, -, -, -, -, -, -, -, -, count, last⟩ := h.1.limits
  unfold Retention.rollDay
  split
  · exact inv_withRet h (retentionLaws_withCalendar h.1 count last (Nat.le_refl _) (Nat.le_refl _))
  · exact inv_withRet h (retentionLaws_withCalendar h.1 (trigger_within count _) last (Nat.zero_le _) (Nat.zero_le _))

theorem inv_rollMinute (h : Inv s) : Inv { s with ret := s.ret.rollMinute } := by
  obtain ⟨-, -, -, -, -, -, -, -, -, count, last⟩ := h.1.limits
  unfold Retention.rollMinute
  split
  next early => exact inv_withRet h (retentionLaws_withCalendar h.1 count last (Nat.succ_le_of_lt early) (Nat.zero_le _))
  next => exact inv_rollDay h

theorem inv_tick (h : Inv s) : Inv { s with ret := s.ret.tick } := by
  obtain ⟨-, -, -, -, -, -, -, minute, -, count, last⟩ := h.1.limits
  unfold Retention.tick
  split
  next early => exact inv_withRet h (retentionLaws_withCalendar h.1 count last minute (Nat.succ_le_of_lt early))
  next => exact inv_rollMinute h

/-! ## The power events -/

theorem retentionLaws_lost (h : RetentionLaws r) : RetentionLaws { r with intact := false } := { h with }

theorem retentionLaws_afterStop (h : RetentionLaws r) (supply : Bool) : RetentionLaws (r.afterStop supply) := by
  unfold Retention.afterStop
  split
  · exact h
  · exact retentionLaws_lost h

theorem inv_of_off (laws : RetentionLaws s.ret) (off : s.well = .off) : Inv s := by
  rw [Safety.Inv, off]
  exact ⟨laws, trivial⟩

theorem inv_of_qualifying (laws : RetentionLaws s.ret) (qualifying : s.well = .qualifying) : Inv s := by
  rw [Safety.Inv, qualifying]
  exact ⟨laws, trivial⟩

theorem inv_restartStop (h : Inv s) : Inv s.restartStop := by
  have laws := retentionLaws_afterStop h.1 s.retentionSupply
  unfold State.restartStop
  dsimp only
  split
  · exact inv_of_qualifying laws rfl
  · exact inv_of_off laws rfl

theorem inv_begins (h : Inv s) : Inv { s with mainOk := true, resetReleased := true, well := s.well.begin } := by
  cases well : s.well with
  | off => exact inv_of_qualifying h.1 rfl
  | qualifying => exact inv_of_qualifying h.1 rfl
  | running m => exact (inv_running_iff rfl).2 ((inv_running_iff well).1 h)

theorem inv_ceases (h : Inv s) (mainOk resetReleased : Bool) :
    Safety.Inv (State.ceases { s with mainOk := mainOk, resetReleased := resetReleased }) := by
  unfold State.ceases
  split
  next off => exact inv_of_off h.1 off
  next => exact inv_of_off h.1 rfl
  next => exact inv_of_off (retentionLaws_afterStop h.1 _) rfl

theorem inv_powerGain (h : Inv s) : Inv { s with ret := s.ret.powered, retentionSupply := true } := by
  cases well : s.well with
  | off => exact inv_of_off (retentionLaws_powered h.1) rfl
  | qualifying => exact inv_of_qualifying (retentionLaws_powered h.1) rfl
  | running m =>
    have lawful := (inv_running_iff well).1 h
    have intact : s.ret.intact = true := lawful.intact
    have same : s.ret.powered = s.ret := by rw [Retention.powered, if_pos intact]
    rw [same]
    exact (inv_running_iff rfl).2 lawful

theorem inv_supplyLost (h : Inv s) : Inv s.supplyLost := by
  unfold State.supplyLost
  split
  next off => exact inv_of_off (retentionLaws_lost h.1) off
  next qualifying => exact inv_of_qualifying (retentionLaws_lost h.1) qualifying
  next m running => exact (inv_running_iff running).2 ((inv_running_iff running).1 h)

theorem keeps_startSequence (h : Inv s) (levels : Set8) : Keeps (exec (.startSequence levels) s) := by
  by_cases qualifying : s.well = .qualifying
  · rw [exec_startSequence_qualifying qualifying]
    exact keeps_next ((inv_withPart_iff s _).2
      (lawful_startSequence (retentionLaws_powered h.1) (intact_powered _) levels))
  · rw [exec_startSequence_of_not_qualifying qualifying]
    exact keeps_next h

theorem keeps_replySent (h : Inv s) : Keeps (exec .replySent s) := by
  change Keeps (execReplySent s)
  unfold execReplySent
  split
  · exact keeps_next h
  · exact keeps_next h
  next m running =>
    split
    · exact keeps_next h
    · exact keeps_next h
    · split
      · exact keeps_next (inv_restartStop h)
      · exact keeps_next ((inv_withPart_iff s _).2 ((inv_running_iff running).1 h).nextReply)

/-! ## Every command and event, and every step -/

theorem exec_keeps_inv (h : Inv s) (i : Instr) : Keeps (exec i s) := by
  cases i with
  | credEnrol tag body => exact keeps_command h (fun f _ l => l.takeCredEnrol f) _ tag body
  | credAmend tag body => exact keeps_command h (fun f _ l => l.takeCredAmend f) _ tag body
  | credSuspend tag body => exact keeps_command h (fun f _ l => l.takeCredSuspend f) _ tag body
  | credReinstate tag body => exact keeps_command h (fun f _ l => l.takeCredReinstate f) _ tag body
  | credRetire tag body => exact keeps_command h (fun f _ l => l.takeCredRetire f) _ tag body
  | quotaReload tag body => exact keeps_command h (fun f _ l => l.takeQuotaReload f) _ tag body
  | credRead tag body => exact keeps_command h (fun f _ l => l.takeCredRead f) _ tag body
  | credNext tag body => exact keeps_command h (fun f _ l => l.takeCredNext f) _ tag body
  | tenantCreate tag body => exact keeps_command h (fun f _ l => l.takeTenantCreate f) _ tag body
  | tenantFloors tag body => exact keeps_command h (fun f _ l => l.takeTenantFloors f) _ tag body
  | tenantSuspend tag body => exact keeps_command h (fun f _ l => l.takeTenantSuspend f) _ tag body
  | tenantReinstate tag body => exact keeps_command h (fun f _ l => l.takeTenantReinstate f) _ tag body
  | tenantPurge tag body => exact keeps_command h (fun f _ l => l.takeTenantPurge f) _ tag body
  | tenantRead tag body => exact keeps_command h (fun f _ l => l.takeTenantRead f) _ tag body
  | overlayOpen tag body => exact keeps_command h (fun f _ l => l.takeOverlayOpen f) _ tag body
  | overlayEdit tag body => exact keeps_command h (fun f _ l => l.takeOverlayEdit f) _ tag body
  | overlayApply tag body => exact keeps_command h (fun f _ l => l.takeOverlayApply f) _ tag body
  | overlayCommit tag body => exact keeps_command h (fun f _ l => l.takeOverlayCommit f) _ tag body
  | overlayDiscard tag body => exact keeps_command h (fun f _ l => l.takeOverlayDiscard f) _ tag body
  | overlayRead tag body => exact keeps_command h (fun f _ l => l.takeOverlayRead f) _ tag body
  | calSet tag body => exact keeps_command h (fun f _ l => l.takeCalSet f) _ tag body
  | calRead tag body => exact keeps_readOnly h _ _ tag body
  | holidaySet tag body => exact keeps_command h (fun f _ l => l.takeHolidaySet f) _ tag body
  | holidayRead tag body => exact keeps_readOnly h _ _ tag body
  | schedSet tag body => exact keeps_command h (fun f _ l => l.takeSchedSet f) _ tag body
  | schedRead tag body => exact keeps_command h (fun f _ l => l.takeSchedRead f) _ tag body
  | paramSet tag body => exact keeps_command h (fun f _ l => l.takeParamSet f) _ tag body
  | paramRead tag body => exact keeps_readOnly h _ _ tag body
  | landingSet tag body => exact keeps_command h (fun f _ l => l.takeLandingSet f) _ tag body
  | landingRead tag body => exact keeps_readOnly h _ _ tag body
  | groupSet tag body => exact keeps_command h (fun f _ l => l.takeGroupSet f) _ tag body
  | groupClear tag body => exact keeps_command h (fun f _ l => l.takeGroupClear f) _ tag body
  | groupRead tag body => exact keeps_command h (fun f _ l => l.takeGroupRead f) _ tag body
  | transferSet tag body => exact keeps_command h (fun f _ l => l.takeTransferSet f) _ tag body
  | transferClear tag body => exact keeps_command h (fun f _ l => l.takeTransferClear f) _ tag body
  | transferRead tag body => exact keeps_readOnly h _ _ tag body
  | panelSet tag body => exact keeps_command h (fun f _ l => l.takePanelSet f) _ tag body
  | panelRead tag body => exact keeps_command h (fun f _ l => l.takePanelRead f) _ tag body
  | ticketRead tag body => exact keeps_command h (fun f _ l => l.takeTicketRead f) _ tag body
  | dropRead tag body => exact keeps_command h (fun f _ l => l.takeDropRead f) _ tag body
  | alarmSet tag body => exact keeps_command h (fun f _ l => l.takeAlarmSet f) _ tag body
  | alarmAck tag body => exact keeps_command h (fun f _ l => l.takeAlarmAck f) _ tag body
  | alarmRead tag body => exact keeps_readOnly h _ _ tag body
  | modeDemand tag body => exact keeps_command h (fun f _ l => l.takeModeDemand f) _ tag body
  | groupResume tag body => exact keeps_command h (fun f _ l => l.takeGroupResume f) _ tag body
  | modeRead tag body => exact keeps_command h (fun f _ l => l.takeModeRead f) _ tag body
  | attnAck tag body => exact keeps_command h (fun f _ l => l.clearSticky f) _ tag body
  | attnEnable tag body => exact keeps_command h (fun f _ l => l.withEnables f) _ tag body
  | attnRead tag body => exact keeps_readOnly h _ _ tag body
  | statusRead tag body => exact keeps_readOnly h _ _ tag body
  | callRead tag body => exact keeps_command h (fun f _ l => l.takeCallRead f) _ tag body
  | restart tag body => exact keeps_command h (fun _ _ l => l) _ tag body
  | unknownCommand kind tag =>
    change Keeps (execUnknownCommand kind tag s)
    unfold execUnknownCommand
    split
    · exact keeps_next h
    · exact keeps_whileRunning h fun _ l => l.takeUnknown kind tag
  | commandDuringReply tag => exact keeps_whileRunning h fun _ l => l.duringReply tag
  | managementFrameDiscarded => exact keeps_whileRunning h fun _ l => l.hunt _
  | replySent => exact keeps_replySent h
  | decision => exact keeps_whileRunning h fun _ l => l.decision
  | callAssigned number car =>
    change Keeps (execCallAssigned number car s)
    unfold execCallAssigned
    refine keeps_whileRunning h fun p l => ?_
    dsimp only
    split
    · exact (l.hunt _).assigned number car
    · exact l.hunt _
  | callDeclined number code =>
    change Keeps (execCallDeclined number code s)
    unfold execCallDeclined
    refine keeps_whileRunning h fun p l => ?_
    dsimp only
    split
    · exact (l.hunt _).declined number code
    · exact l.hunt _
  | callTimerExpiry number => exact keeps_whileRunning h fun _ l => l.timeout number
  | dispatchAlive groups => exact keeps_whileRunning h fun _ l => (l.hunt _).alive groups
  | livenessTimerExpiry => exact keeps_whileRunning h fun _ l => l.livenessEnd
  | dispatcherFrameSent => exact keeps_whileRunning h fun _ l => l.frameSent
  | dispatcherFrameDiscarded => exact keeps_whileRunning h fun _ l => l.hunt _
  | ticketExpiry badge => exact keeps_whileRunning h fun _ l => l.expireTicket badge
  | validReply link address request =>
    exact keeps_whileRunning h fun _ l => l.panelFrame link fun _ k => k.replyFrame (panel_le link) _ request
  | invalidReply link => exact keeps_whileRunning h fun _ l => l.panelFrame link fun _ k => k.missPoll (panel_le link)
  | replyWindowEnd link => exact keeps_whileRunning h fun _ l => l.windowEnd link
  | unsolicitedPanelFrame link => exact keeps_whileRunning h fun _ l => l.panelFrame link fun _ k => k
  | frameGapTimeout wire =>
    change Keeps (execFrameGapTimeout wire s)
    unfold execFrameGapTimeout
    refine keeps_whileRunning h fun p l => ?_
    split
    · exact l.gapOn wire
    · exact l
  | repeatMemoryEnd drop => exact keeps_whileRunning h fun _ l => l.endMemory drop
  | escortWindowEnd drop => exact keeps_whileRunning h fun _ l => l.endEscort drop
  | rawLevelChange line high => exact keeps_whileRunning h fun _ l => l.rawChange line.isLt high
  | debounceEnd line => exact keeps_whileRunning h fun _ l => l.endDebounce line.isLt
  | purgeVisit => exact keeps_whileRunning h fun _ l => l.purgeVisit
  | sweepVisit => exact keeps_whileRunning h fun _ l => l.sweepVisit
  | secondAdvance =>
    refine keeps_next ?_
    split
    · exact inv_tick h
    · exact h
  | minuteAdvance =>
    refine keeps_next ?_
    split
    · exact inv_rollMinute h
    · exact h
  | dayRollover =>
    refine keeps_next ?_
    split
    · exact inv_rollDay h
    · exact h
  | startConditionBegins => exact keeps_next (inv_begins h)
  | startConditionCeases mainOk resetReleased =>
    refine keeps_next ?_
    split
    · exact h
    · exact inv_ceases h mainOk resetReleased
  | startSequence levels => exact keeps_startSequence h levels
  | retentionPowerGain => exact keeps_next (inv_powerGain h)
  | retentionSupplyLoss => exact keeps_next (inv_supplyLost h)
  | pollSent link => exact keeps_whileRunning h fun _ l => l.startWindow (panel_le link)
  | frameStart wire => exact keeps_whileRunning h fun _ l => l.beginFrame wire

theorem inv_elapse (h : Inv s) : Inv s.elapse := by
  unfold State.elapse
  split
  next m running =>
    have lawful := (inv_running_iff running).1 h
    have later : Lawful (partOf s { m with now := m.now + 1 }) := ⟨lawful.ret, { lawful.main with }, lawful.intact⟩
    exact (inv_running_iff rfl).2 later
  · exact h
  · exact h

/-- Every step keeps the laws of the part. -/
theorem step_keeps_inv (h : Inv s) : Keeps (step s) := by
  unfold step
  split
  next c rest _ =>
    have rested : Inv { s with pending := rest } := h
    exact exec_keeps_inv rested c
  · split
    · exact exec_keeps_inv h _
    · exact keeps_next (inv_elapse h)

theorem inv_reset : Inv State.reset := by
  exact (inv_running_iff rfl).2 ⟨retentionLaws_afterLoss, {
    tables := mainTables_fresh
    limits := mainLimits_fresh
    overlays := ⟨.nil, List.forall_mem_nil _⟩
    drops := ⟨List.forall_mem_nil _, List.forall_mem_nil _⟩
    polls := List.forall_mem_nil _
    calls := ⟨.nil, List.forall_mem_nil _⟩
    trips := ⟨List.forall_mem_nil _, List.forall_mem_nil _⟩
    tickets := ⟨List.forall_mem_nil _, .nil⟩
    modes := by decide
    recalled := ⟨List.forall_mem_nil _, List.forall_mem_nil _⟩
    link := linkInStep_fresh
    lines := List.forall_mem_nil _ }, rfl⟩

end Sys2Proof.Laws

namespace Sys2Proof.Proofs

open Sys2Proof.Machine Sys2Proof.Safety Sys2Proof.Laws

/-- Settles O53: no table has an entry, and every group stands NORMAL with no demand. -/
theorem lawsHoldAtReset : Obligations.LawsHoldAtReset := inv_reset

/-- Settles O54: the laws of the retention well among those that every step keeps. -/
theorem retentionWellStaysLawful : Obligations.RetentionWellStaysLawful := by
  intro s s' lawful next
  obtain ⟨ret, -⟩ := step_keeps_inv lawful s' next
  exact ⟨ret.tables, ret.limits, ret.inStep, ret.counted⟩

/-- Settles O55: the map's law among those that every step keeps. -/
theorem mapStaysConsistent : Obligations.MapStaysConsistent := by
  intro s s' lawful next
  obtain ⟨ret, -⟩ := step_keeps_inv lawful s' next
  exact ret.map

/-- Settles O56: the laws of the main well's tables, limits, overlays, link and lines among those that every step keeps. -/
theorem mainWellStaysLawful : Obligations.MainWellStaysLawful := by
  intro s s' m' lawful next running
  obtain ⟨-, main, intact⟩ := (inv_running_iff running).1 (step_keeps_inv lawful s' next)
  exact ⟨main.tables, main.limits, main.overlays, main.link, main.lines, intact⟩

/-- Settles O57: the laws of drops and polls among those that every step keeps. -/
theorem dropsStayBounded : Obligations.DropsStayBounded := by
  intro s s' m' lawful next running
  obtain ⟨-, main, -⟩ := (inv_running_iff running).1 (step_keeps_inv lawful s' next)
  exact ⟨main.drops, main.polls⟩

/-- Settles O58: the laws of calls and reserved trips among those that every step keeps. -/
theorem callsStayApartAndTripsReserved : Obligations.CallsStayApartAndTripsReserved := by
  intro s s' m' lawful next running
  obtain ⟨-, main, -⟩ := (inv_running_iff running).1 (step_keeps_inv lawful s' next)
  exact ⟨main.calls, main.trips⟩

/-- Settles O59: the law of the ticket pool among those that every step keeps. -/
theorem ticketsStayEntitled : Obligations.TicketsStayEntitled := by
  intro s s' m' lawful next running
  obtain ⟨-, main, -⟩ := (inv_running_iff running).1 (step_keeps_inv lawful s' next)
  exact main.tickets

/-- Settles O60: the laws of the modes among those that every step keeps. -/
theorem modesStayHeldAndRecallClears : Obligations.ModesStayHeldAndRecallClears := by
  intro s s' m' lawful next running
  obtain ⟨-, main, -⟩ := (inv_running_iff running).1 (step_keeps_inv lawful s' next)
  exact ⟨main.modes, main.recalled⟩

end Sys2Proof.Proofs
end

section
/-! SUPPORT. A command taken in READY, by its checks in order: the first that fails gives the refusal, and when all pass
the command is done. -/

namespace Sys2Proof.Laws

open Sys2Proof.Machine Sys2Proof.Safety

/-! ## Checks made in order -/

/-- What a command comes to: refused by the first of its checks that fails, else the rest. -/
def checked (p : Part) : List (Bool × Status) → Taken → Taken
  | [], rest => rest
  | (fails, st) :: checks, rest => if fails then refuse p st else checked p checks rest

section
variable {p : Part} {checks : List (Bool × Status)}

theorem checked_of_failing {st : Status} (failing : firstFailing checks = some st) (rest : Taken) :
    checked p checks rest = refuse p st := by
  induction checks with
  | nil => cases failing
  | cons check checks ih =>
    obtain ⟨fails, answer⟩ := check
    cases fails with
    | true =>
      obtain rfl : answer = st := Option.some.inj failing
      rfl
    | false => exact ih failing

theorem checked_of_passing (passing : ∀ e ∈ checks, e.1 = false) (rest : Taken) : checked p checks rest = rest := by
  induction checks with
  | nil => rfl
  | cons check checks ih =>
    obtain ⟨first, later⟩ := List.forall_mem_cons.1 passing
    rw [checked, first]
    exact ih later

theorem checked_append (checks more : List (Bool × Status)) (rest : Taken) :
    checked p (checks ++ more) rest = checked p checks (checked p more rest) := by
  induction checks with
  | nil => rfl
  | cons check checks ih => rw [List.cons_append, checked, checked, ih]

end

/-! ## A command taken in READY -/

section
variable {s : State} {m : Main} {kind tag : Byte} {c : Instr} {α : Type} {f : α} {act : α → Part → Taken}

/-- The state with its own working part put back. -/
theorem withPart_self (running : s.well = .running m) : s.withPart (partOf s m) = s := by
  obtain ⟨ret, well, mainOk, resetReleased, supply, pending⟩ := s
  obtain rfl : well = .running m := running
  rfl

theorem command_listening (ready : Ready s m) (f : α) (act : α → Part → Taken) (kind tag : Byte) :
    command kind tag (.read f) act s = .next (s.withPart ((act f (partOf s (listening m))).part.reply
      ⟨kind, tag, (act f (partOf s (listening m))).status, (act f (partOf s (listening m))).results⟩)) :=
  command_ready kind tag act ready.1 ready.2 f

theorem doneWith_of (arm : exec c s = command kind tag (.read f) act s) (ready : Ready s m) {q : Part} {results : Results}
    (took : act f (partOf s (listening m)) = done q results) {r : Retention} {m' : Main} (ret : q.ret = r)
    (main : q.main = m') : doneWith c s r m' kind tag results := by
  have taken := command_listening ready f act kind tag
  rw [took] at taken
  subst ret main
  exact arm.trans taken

theorem refusedWith_of (arm : exec c s = command kind tag (.read f) act s) (ready : Ready s m) {st : Status}
    (took : act f (partOf s (listening m)) = refuse (partOf s (listening m)) st) : refusedWith c s m kind tag st := by
  have taken := command_listening ready f act kind tag
  rw [took] at taken
  exact arm.trans taken

theorem refusedInOrder_of (arm : exec c s = command kind tag (.read f) act s) (ready : Ready s m)
    {checks : List (Bool × Status)} {rest : Taken}
    (takes : act f (partOf s (listening m)) = checked (partOf s (listening m)) checks rest) :
    refusedInOrder c s m kind tag checks := fun _ failing =>
  refusedWith_of arm ready (takes.trans (checked_of_failing failing rest))

end

variable {p : Part}

/-! ## The Credential Store's commands by their checks (chapter 1) -/

theorem tenantPurging_eq (t : Byte) : p.tenantPurging t = namesPurging p.ret t := by
  rw [Bool.eq_iff_iff, tenantPurging_iff, Bool.and_eq_true, decide_eq_true_eq, decide_eq_true_eq]

theorem tenantFree_eq (t : Byte) : p.tenantFree t = namesFree p.ret t := rfl

theorem takeCredEnrol_eq (i : CredImage) (p : Part) : takeCredEnrol i p =
    checked p (enrolChecks p.ret p.main i) (done (p.enrol i) (.credState (enrolledState i.quota))) := by
  simp only [takeCredEnrol, checked, enrolChecks, tenantPurging_eq, tenantFree_eq, decide_eq_true_eq]
  rfl

theorem key_passes {b : Badge} (key : badgeKey b = true) : (decide (b = 0) || decide (b = BitVec.allOnes 40)) = false := by
  rw [badgeKey, Bool.and_eq_true, decide_eq_true_eq, decide_eq_true_eq] at key
  rw [decide_eq_false key.1, decide_eq_false key.2]
  rfl

theorem onCred_eq (b : Badge) (p : Part) (act : Cred → Taken) : onCred b p act =
    checked p (badgeChecks p.ret b) ((p.cred b).elim (refuse p .notFound) act) := by
  have key : (decide (b = 0) || decide (b = BitVec.allOnes 40)) = !badgeKey b := by
    simp [badgeKey, Bool.not_and]
  simp only [onCred, checked, badgeChecks, key]
  refine ite_congr rfl (fun _ => rfl) fun _ => ?_
  cases found : p.cred b with
  | none =>
    have absent : credAt p.ret b = none := found
    simp only [absent]
    rfl
  | some c =>
    have present : credAt p.ret b = some c := found
    simp only [present]
    rfl

/-- A command on a record whose work makes checks of its own, when a record is present. -/
theorem onCred_checked {b : Badge} {act rest : Cred → Taken} {more : List (Bool × Status)}
    (work : ∀ c, p.cred b = some c → act c = checked p more (rest c)) : onCred b p act =
      checked p (badgeChecks p.ret b ++ more) ((p.cred b).elim (refuse p .notFound) rest) := by
  rw [onCred_eq, checked_append]
  cases found : p.cred b with
  | none =>
    have absent : credAt p.ret b = none := found
    simp only [checked, badgeChecks, absent]
    rfl
  | some c => exact congrArg (checked p _) (work c found)

theorem onCred_present {b : Badge} {c : Cred} (key : badgeKey b = true) (found : p.cred b = some c)
    (act : Cred → Taken) : onCred b p act = act c := by
  rw [onCred, key, found]
  rfl

theorem takeCredAmend_eq (i : CredImage) (p : Part) : takeCredAmend i p = checked p (amendChecks p.ret i)
    ((p.cred i.badge).elim (refuse p .notFound) fun c => done (p.amend i c) (.credState (amended i c).state)) := by
  refine onCred_checked (act := fun c => if !imageOk i then refuse p .badValue
    else if p.tenantFree i.tenant then refuse p .badValue
    else if p.tenantPurging c.tenant || p.tenantPurging i.tenant then refuse p .purging
    else if c.reserved && (decide (i.quota = none) || decide (i.quota = some 0)) then refuse p .badValue
    else done (p.amend i c) (.credState (amended i c).state)) fun c found => ?_
  have present : credAt p.ret i.badge = some c := found
  simp only [checked, present, tenantPurging_eq, Option.any_some]
  rfl

theorem takeCredReinstate_eq (b : Badge) (p : Part) : takeCredReinstate b p = checked p (reinstateChecks p.ret b)
    ((p.cred b).elim (refuse p .notFound) fun c =>
      done (p.putCred b { c with state := enrolledState c.quota }) (.credState (enrolledState c.quota))) := by
  refine onCred_checked fun c found => ?_
  have present : credAt p.ret b = some c := found
  simp only [checked, present, Option.map_some, ne_eq, Option.some.injEq, decide_not]
  by_cases suspended : c.state = .suspended <;> simp [suspended]

theorem takeQuotaReload_eq (f : QuotaFields) (p : Part) : takeQuotaReload f p = checked p (reloadChecks p.ret f)
    ((p.cred f.badge).elim (refuse p .notFound) fun c =>
      done (p.putCred f.badge { c with
          quota := some (byte f.remaining.toNat), state := deriveState c.state (some (byte f.remaining.toNat)) })
        (.quota (deriveState c.state (some (byte f.remaining.toNat))) (byte f.remaining.toNat))) := by
  refine onCred_checked fun c found => ?_
  have present : credAt p.ret f.badge = some c := found
  simp only [checked, present, Option.any_some, decide_eq_true_eq]

/-! ## The records after a command -/

theorem credAt_put (r : Retention) (b d : Badge) (c : Cred) :
    Table.lookup (Table.put r.creds b.toNat c) d.toNat = if d = b then some c else credAt r d :=
  credAt_assign b d (some c)

theorem credAt_erase (r : Retention) (b d : Badge) :
    Table.lookup (Table.erase r.creds b.toNat) d.toNat = if d = b then none else credAt r d :=
  credAt_assign b d none

theorem filter_not_badge (l : List Ticket) (b : Badge) :
    (l.filter fun t => !decide (t.badge = b)) = l.filter fun t => decide (t.badge ≠ b) := by
  simp only [ne_eq, decide_not]

/-- The least badge above a number is the next key of the records. -/
theorem next_eq_some_of_least {r : Retention} (form : CredsForm r.creds) {n : Nat} {b : Badge} {c : Cred} (above : n < b.toNat)
    (found : credAt r b = some c) (least : ∀ d : Badge, n < d.toNat → d < b → credAt r d = none) :
    Table.next r.creds n = some (b.toNat, c) := by
  obtain ⟨sorted, keys⟩ := form
  have listed := mem_of_lookup found
  cases next : Table.next r.creds n with
  | none => exact absurd (List.find?_eq_none.1 next _ listed) (by simpa using above)
  | some e =>
    obtain ⟨k, v⟩ := e
    have there := List.mem_of_find?_eq_some next
    have later : n < k := by simpa using List.find?_some next
    have first : k ≤ b.toNat := next_least sorted next listed above
    have key : (BitVec.ofNat 40 k : Badge).toNat = k := badge_ofNat (keys _ there).2
    have same : k = b.toNat := by
      by_contra other
      have absent := least (BitVec.ofNat 40 k) (by rw [key]; exact later) (by rw [BitVec.lt_def, key]; omega)
      rw [credAt, key, lookup_of_mem sorted there] at absent
      cases absent
    have value := lookup_of_mem sorted there
    rw [same, show Table.lookup r.creds b.toNat = some c from found] at value
    rw [same, Option.some.inj value]

theorem next_eq_none_of_none_above {r : Retention} (form : CredsForm r.creds) {n : Nat}
    (bare : ∀ d : Badge, n < d.toNat → credAt r d = none) : Table.next r.creds n = none := by
  obtain ⟨sorted, keys⟩ := form
  refine List.find?_eq_none.2 fun e mem above => ?_
  have key : (BitVec.ofNat 40 e.1 : Badge).toNat = e.1 := badge_ofNat (keys e mem).2
  have absent := bare (BitVec.ofNat 40 e.1) (by rw [key]; simpa using above)
  rw [credAt, key, lookup_of_mem sorted mem] at absent
  cases absent

theorem enrol_spec (p : Part) (i : CredImage) : (p.enrol i).main = p.main ∧
    (p.enrol i).ret = { p.ret with
      creds := Table.put p.ret.creds i.badge.toNat (recordOf i (enrolledState i.quota) false)
      tenants := (p.enrol i).ret.tenants } :=
  countUp_frame _ _

theorem enrol_tenant (p : Part) (i : CredImage) (t : Byte) : (p.enrol i).tenant t = (p.tenant t).map fun v =>
    { v with count := v.count + if t = i.tenant ∧ t ≠ 0 then 1 else 0 } := tenant_countUp _ _ _

theorem amend_tenant (p : Part) (i : CredImage) (c : Cred) (t : Byte) : (p.amend i c).tenant t =
    (p.tenant t).map fun v => { v with count :=
      if c.tenant = i.tenant ∨ t = 0 then v.count else if t = c.tenant then v.count - 1
      else if t = i.tenant then v.count + 1 else v.count } := by
  rw [Part.tenant, (amend_spec i c).2]
  exact tenant_moveTenant _ _ _ _

theorem retire_spec {b : Badge} {c : Cred} (found : p.cred b = some c) :
    (p.retire b).main = { p.main with tickets := p.main.tickets.filter fun t => decide (t.badge ≠ b) } ∧
    (p.retire b).ret = { p.ret with
      creds := Table.erase p.ret.creds b.toNat, tenants := (p.retire b).ret.tenants } := by
  rw [retire_present p found]
  obtain ⟨main, ret⟩ := countDown_frame
    ((p.withCreds (Table.erase p.ret.creds b.toNat)).removeBadgeTickets b) c.tenant
  refine ⟨?_, ret⟩
  rw [main, Part.removeBadgeTickets, removeTickets_main, filter_not_badge]
  rfl

theorem retire_tenant {b : Badge} {c : Cred} (found : p.cred b = some c) (t : Byte) :
    (p.retire b).tenant t = (p.tenant t).map fun v =>
      { v with count := v.count - if t = c.tenant ∧ t ≠ 0 then 1 else 0 } := by
  rw [retire_present p found]
  exact tenant_countDown _ _ _

/-- A tenant of an image that names tenant 0 or a present one that is not PURGING passes the checks on it. -/
theorem tenant_passes {r : Retention} {t : Byte} (present : t = 0 ∨ ∃ v, tenantAt r t = some v ∧ v.state ≠ .purging) :
    namesFree r t = false ∧ namesPurging r t = false := by
  rcases present with zero | ⟨v, found, unpurged⟩
  · simp [zero]
  · simp [found, unpurged]

end Sys2Proof.Laws

namespace Sys2Proof.Proofs

open Sys2Proof.Machine Sys2Proof.Safety Sys2Proof.Laws

/-- Settles O9: the enrolled record is written and counted, and the checks are those of the command in their order. -/
theorem enrolmentAddsARecord : Obligations.EnrolmentAddsARecord := by
  refine ⟨fun s m tag i st ready ok absent free present room state => ?_, fun s m tag i ready =>
    refusedInOrder_of (exec_credEnrol tag _ s) ready (takeCredEnrol_eq i _)⟩
  let p := partOf s (listening m)
  obtain ⟨main, ret⟩ := enrol_spec p i
  obtain ⟨named, unpurged⟩ := tenant_passes present
  have took : takeCredEnrol i p = done (p.enrol i) (.credState st) := by
    have idle : (m.calls.any fun e => decide (e.2.badge = some i.badge)) = false := by simpa using free
    have fits : ¬ 16384 ≤ s.ret.creds.length := Nat.not_le.2 room
    rw [takeCredEnrol_eq, checked_of_passing, state]
    · rfl
    · simp [enrolChecks, ok, absent, idle, named, unpurged, fits, p]
  refine ⟨(p.enrol i).ret, doneWith_of (exec_credEnrol tag _ s) ready took rfl main, by rw [ret], ?_, fun b other => ?_,
    enrol_tenant p i⟩
  · rw [credAt, ret]
    exact (credAt_put s.ret i.badge i.badge _).trans (by rw [if_pos rfl, state]; rfl)
  · rw [credAt, ret]
    exact (credAt_put s.ret i.badge b _).trans (if_neg other)

/-- Settles O10: the amended record is written and moved between its tenants' counts; tickets go with a tenant that is not
LIVE. -/
theorem amendmentReplacesARecord : Obligations.AmendmentReplacesARecord := by
  refine ⟨fun s m tag i c st ready ok found present unpurged charged state => ?_, fun s m tag i ready =>
    refusedInOrder_of (exec_credAmend tag _ s) ready (takeCredAmend_eq i _)⟩
  let p := partOf s (listening m)
  have there : p.cred i.badge = some c := found
  obtain ⟨main, ret⟩ := amend_spec (p := p) i c
  obtain ⟨key, -⟩ := (imageOk_iff i).1 ok
  have written : amended i c = recordOf i st c.reserved := by rw [amended, state]; rfl
  have took : takeCredAmend i p = done (p.amend i c) (.credState st) := by
    obtain ⟨named, open_⟩ := tenant_passes present
    have leaves : namesPurging s.ret c.tenant = false := by
      rcases unpurged with zero | other
      · simp [zero]
      · cases held : tenantAt s.ret c.tenant with
        | none => simp [held]
        | some v => simp [held, other v held]
    have trip : (c.reserved && (decide (i.quota = none) || decide (i.quota = some 0))) = false := by
      cases reserved : c.reserved with
      | false => rfl
      | true =>
        obtain ⟨limited, positive⟩ := charged reserved
        rw [Bool.true_and, Bool.or_eq_false_iff]
        exact ⟨decide_eq_false limited, decide_eq_false positive⟩
    rw [takeCredAmend_eq, checked_of_passing, there]
    · exact congrArg (fun c : Cred => done _ (.credState c.state)) written
    · have unnamed : (namesPurging s.ret c.tenant || namesPurging s.ret i.tenant) = false := by rw [leaves, open_]; rfl
      simp only [amendChecks, badgeChecks, List.cons_append, List.nil_append, List.forall_mem_cons]
      simp only [p, found]
      exact ⟨key_passes key, rfl, by rw [ok]; rfl, named, unnamed, trip, nofun⟩
  refine ⟨(p.amend i c).ret, doneWith_of (exec_credAmend tag _ s) ready took rfl ?_, by rw [ret], ?_, fun b other => ?_,
    amend_tenant p i c⟩
  · rw [main, filter_not_badge]
    simp only [tenantLive_iff]
    rfl
  · rw [credAt, ret, ← written]
    exact (credAt_put s.ret i.badge i.badge _).trans (if_pos rfl)
  · rw [credAt, ret]
    exact (credAt_put s.ret i.badge b _).trans (if_neg other)

/-- Settles O11: the record is rewritten at its place with its new state. -/
theorem suspensionAndReinstatement : Obligations.SuspensionAndReinstatement := by
  refine ⟨fun s m tag b c ready key found => ?_, fun s m tag b ready =>
    ⟨refusedInOrder_of (exec_credSuspend tag _ s) ready (onCred_eq b _ _),
      refusedInOrder_of (exec_credReinstate tag _ s) ready (takeCredReinstate_eq b _)⟩⟩
  let p := partOf s (listening m)
  have there : p.cred b = some c := found
  have record : ∀ v, Table.lookup (Table.put s.ret.creds b.toNat v) b.toNat = some v := fun v => lookup_put_self _ _ _
  have others : ∀ v b', b' ≠ b → Table.lookup (Table.put s.ret.creds b.toNat v) b'.toNat = credAt s.ret b' :=
    fun v b' other => (credAt_put s.ret b b' v).trans (if_neg other)
  refine ⟨⟨(p.putCred b { c with state := .suspended }).ret, ?_, rfl, record _, others _⟩, fun suspended st state => ?_,
    fun other => ?_⟩
  · exact doneWith_of (exec_credSuspend tag _ s) ready (onCred_present key there _) rfl
      (by rw [Part.removeBadgeTickets, removeTickets_main, filter_not_badge]; rfl)
  · have took : takeCredReinstate b p = done (p.putCred b { c with state := st }) (.credState st) :=
      (onCred_present key there _).trans (by rw [if_pos suspended, state]; rfl)
    exact ⟨(p.putCred b { c with state := st }).ret, doneWith_of (exec_credReinstate tag _ s) ready took rfl rfl, rfl,
      record _, others _⟩
  · exact refusedWith_of (exec_credReinstate tag _ s) ready ((onCred_present key there _).trans (if_neg other))

/-- Settles O12: the record is taken out with its tickets and its place in its tenant's count. -/
theorem retirementRemovesARecord : Obligations.RetirementRemovesARecord := by
  refine ⟨fun s m tag b c ready key found => ?_, fun s m tag b ready =>
    refusedInOrder_of (exec_credRetire tag _ s) ready (onCred_eq b _ _)⟩
  let p := partOf s (listening m)
  have there : p.cred b = some c := found
  obtain ⟨main, ret⟩ := retire_spec there
  refine ⟨(p.retire b).ret, doneWith_of (exec_credRetire tag _ s) ready (onCred_present key there _) rfl main,
    by rw [ret], ?_, fun b' other => ?_, retire_tenant there⟩
  · rw [credAt, ret]
    exact (credAt_erase s.ret b b).trans (if_pos rfl)
  · rw [credAt, ret]
    exact (credAt_erase s.ret b b').trans (if_neg other)

/-- Settles O13: the record is rewritten with the count and the state derived from it. -/
theorem quotaReloadSetsTheCount : Obligations.QuotaReloadSetsTheCount := by
  refine ⟨fun s m tag f c st ready key found fits charged state => ?_, fun s m tag f ready =>
    refusedInOrder_of (exec_quotaReload tag _ s) ready (takeQuotaReload_eq f _)⟩
  let p := partOf s (listening m)
  have there : p.cred f.badge = some c := found
  have zero : byte f.remaining.toNat = 0 ↔ f.remaining = 0 := by
    simp only [byte]
    bv_omega
  have derived : deriveState c.state (some (byte f.remaining.toNat)) = st := by
    simp only [state, deriveState, Option.some.injEq, zero]
  have allowed : ¬(c.reserved && decide (f.remaining = 0)) = true := by
    rw [Bool.and_eq_true, decide_eq_true_eq]
    exact fun h => charged h.1 h.2
  have took : takeQuotaReload f p = done (p.putCred f.badge { c with quota := some (byte f.remaining.toNat), state := st })
      (.quota st (byte f.remaining.toNat)) := by
    refine (onCred_present key there _).trans ?_
    dsimp only
    rw [if_neg (Nat.not_lt.2 fits), if_neg allowed, derived]
  exact ⟨_, doneWith_of (exec_quotaReload tag _ s) ready took rfl rfl, rfl, lookup_put_self _ _ _, fun b other =>
    (credAt_put s.ret f.badge b _).trans (if_neg other)⟩

/-- Settles O14: CRED_NEXT finds the least badge above, since the records' keys rise. -/
theorem credentialReads : Obligations.CredentialReads := by
  intro s m tag b ready tables
  let p := partOf s (listening m)
  obtain ⟨form, -⟩ := tables
  refine ⟨fun c key found => ?_, fun b' c above found least => ?_, refusedInOrder_of (exec_credRead tag _ s) ready
    (onCred_eq b _ _), fun bare => ?_⟩
  · have there : p.cred b = some c := found
    exact doneWith_of (exec_credRead tag _ s) ready (onCred_present key there _) rfl rfl
  · have next : Table.next p.ret.creds b.toNat = some (b'.toNat, c) := next_eq_some_of_least form above found least
    have took : takeCredNext b p = done p (.cred b' c) := by
      rw [takeCredNext, next]
      simp
    exact doneWith_of (exec_credNext tag _ s) ready took rfl rfl
  · have next : Table.next p.ret.creds b.toNat = none := next_eq_none_of_none_above form bare
    exact refusedWith_of (exec_credNext tag _ s) ready (by rw [takeCredNext, next])

end Sys2Proof.Proofs
end

section
/-! SUPPORT. The commands on tenants and overlay slots by their checks, and the two walkers (chapter 2, sections 2.5, 3.4). -/

namespace Sys2Proof.Laws

open Sys2Proof.Machine Sys2Proof.Safety

variable {p : Part}

/-! ## A command on a present tenant -/

theorem onTenant_checked {t : Byte} {act rest : Tenant → Taken} {more : List (Bool × Status)}
    (work : ∀ v, p.tenant t = some v → act v = checked p more (rest v)) : onTenant t p act =
      checked p (tenantChecks p.ret t ++ more) ((p.tenant t).elim (refuse p .notFound) rest) := by
  rw [checked_append]
  simp only [onTenant, checked, tenantChecks, decide_eq_true_eq]
  refine ite_congr rfl (fun _ => rfl) fun _ => ?_
  cases found : p.tenant t with
  | none =>
    have absent : tenantAt p.ret t = none := found
    simp only [absent]
    rfl
  | some v =>
    have present : tenantAt p.ret t = some v := found
    simp only [present]
    exact work v found

theorem onTenant_present {t : Byte} {v : Tenant} (nonzero : t ≠ 0) (found : p.tenant t = some v) (act : Tenant → Taken) :
    onTenant t p act = act v := by
  rw [onTenant, if_neg nonzero, found]

theorem overlayOf_isSome (t : Byte) : (p.overlayOf t).isSome = inOverlay p.main t := by
  rw [Part.overlayOf, Bool.eq_iff_iff, List.find?_isSome, List.any_eq_true]

theorem inOverlay_eq_false {m : Main} {t : Byte} (free : ∀ e ∈ m.overlays, e.2.tenant ≠ t) : inOverlay m t = false := by
  simpa [inOverlay] using free

theorem tenantState_of {t : Byte} {v : Tenant} (found : p.tenant t = some v) : tenantState p.ret t = some v.state :=
  congrArg (Option.map Tenant.state) found

theorem takeTenantCreate_eq (f : TenantFields) (p : Part) : takeTenantCreate f p =
    checked p (createChecks p.ret f) (done (p.putTenant f.tenant ⟨.live, f.grants, 0⟩) .nothing) := by
  simp only [takeTenantCreate, checked, createChecks, decide_eq_true_eq]
  rfl

theorem takeTenantFloors_eq (f : TenantFields) (p : Part) : takeTenantFloors f p =
    checked p (floorsChecks p.ret p.main f) ((p.tenant f.tenant).elim (refuse p .notFound) fun v =>
      done (p.putTenant f.tenant { v with grants := f.grants }) .nothing) := by
  refine onTenant_checked fun v found => ?_
  simp only [checked, tenantState_of found, Option.some.injEq, decide_eq_true_eq, overlayOf_isSome]

theorem takeTenantSuspend_eq (t : Byte) (p : Part) : takeTenantSuspend t p =
    checked p (suspendChecks p.ret t) ((p.tenant t).elim (refuse p .notFound) fun v =>
      done ((p.putTenant t { v with state := .suspended }).removeTenantTickets t) .nothing) := by
  refine onTenant_checked fun v found => ?_
  simp only [checked, tenantState_of found, Option.some.injEq, decide_eq_true_eq]

theorem takeTenantReinstate_eq (t : Byte) (p : Part) : takeTenantReinstate t p =
    checked p (restoreChecks p.ret t) ((p.tenant t).elim (refuse p .notFound) fun v =>
      done (p.putTenant t { v with state := .live }) .nothing) := by
  refine onTenant_checked fun v found => ?_
  simp only [checked, tenantState_of found, ne_eq, Option.some.injEq, decide_eq_true_eq, ite_not]

theorem takeTenantPurge_eq (t : Byte) (p : Part) : takeTenantPurge t p =
    checked p (purgeChecks p.ret p.main t) ((p.tenant t).elim (refuse p .notFound) fun v =>
      done ((p.putTenant t { v with state := .purging }).withPurge ⟨true, t, 0⟩) .nothing) := by
  refine onTenant_checked fun v found => ?_
  simp only [checked, tenantState_of found, ne_eq, Option.some.injEq, decide_eq_true_eq, overlayOf_isSome]

/-! ## The tenants after a command -/

theorem tenantAt_put (r : Retention) (t x : Byte) (v : Tenant) :
    Table.lookup (Table.put r.tenants t.toNat v) x.toNat = if x = t then some v else tenantAt r x := by
  rw [lookup_put]
  exact if_congr BitVec.toNat_inj rfl rfl

theorem tenantAt_put_ne (r : Retention) {t x : Byte} (other : x ≠ t) (v : Tenant) :
    Table.lookup (Table.put r.tenants t.toNat v) x.toNat = tenantAt r x :=
  (tenantAt_put r t x v).trans (if_neg other)

theorem removeTenantTickets_eq (p : Part) (t : Byte) : (p.removeTenantTickets t).main = { p.main with
    tickets := p.main.tickets.filter fun k => decide ((credAt p.ret k.badge).map Cred.tenant ≠ some t) } := by
  rw [Part.removeTenantTickets, removeTickets_main]
  have same : (fun k => !p.ticketOfTenant t k) =
      fun k : Ticket => decide ((credAt p.ret k.badge).map Cred.tenant ≠ some t) := funext fun k => by
    unfold Part.ticketOfTenant
    cases found : p.cred k.badge with
    | none => simp [show credAt p.ret k.badge = none from found]
    | some c => simp [show credAt p.ret k.badge = some c from found]
  rw [same]

/-! ## A command on an overlay slot -/

theorem onOverlay_checked (slot : Byte) (operandsOk : Bool) (p : Part) (act : Overlay → Taken) :
    onOverlay slot operandsOk p act = checked p (slotChecks p.main slot operandsOk)
      ((p.overlay slot).elim (refuse p .wrongState) act) := by
  have place : (!slotOk slot) = decide (2 ≤ slot.toNat) := by
    rw [slotOk, ← decide_not]
    exact decide_eq_decide.2 Nat.not_lt
  simp only [onOverlay, checked, slotChecks, place, Part.overlay]
  cases decide (2 ≤ slot.toNat) <;> cases operandsOk <;> cases Table.lookup p.main.overlays slot.toNat <;> rfl

theorem onOverlay_present {slot : Byte} {o : Overlay} (place : slot.toNat < 2) (found : p.overlay slot = some o)
    {operandsOk : Bool} (ok : operandsOk = true) (act : Overlay → Taken) : onOverlay slot operandsOk p act = act o := by
  have placed : slotOk slot = true := decide_eq_true place
  rw [onOverlay, placed, ok, found]
  rfl

theorem takeOverlayOpen_eq (f : OverlayOpenFields) (p : Part) : takeOverlayOpen f p =
    checked p (openChecks p.ret p.main f) ((p.tenant f.tenant).elim (refuse p .notFound) fun v =>
      done (p.putOverlay f.slot ⟨f.tenant, v.grants, none⟩) .nothing) := by
  have place : (!slotOk f.slot) = decide (2 ≤ f.slot.toNat) := by
    rw [slotOk, ← decide_not]
    exact decide_eq_decide.2 Nat.not_lt
  simp only [takeOverlayOpen, checked, openChecks, place, overlayOf_isSome]
  refine ite_congr rfl (fun _ => rfl) fun _ => ite_congr rfl (fun _ => rfl) fun _ => ?_
  cases found : p.tenant f.tenant with
  | none =>
    have absent : tenantAt p.ret f.tenant = none := found
    simp only [absent]
    rfl
  | some v =>
    have present : tenantAt p.ret f.tenant = some v := found
    simp only [tenantState_of found, Option.some.injEq, decide_eq_true_eq, present]
    rfl

/-! ## The walkers' visits (R38, R39, R63, R64) -/

theorem endPurge_eq (p : Part) : p.endPurge = ⟨{ p.ret with
    tenants := Table.erase p.ret.tenants p.ret.purge.tenant.toNat, purge := ⟨false, p.ret.purge.tenant, 0⟩ },
    { p.main with purgeDone := true }⟩ := rfl

theorem purgeVisit_ends (running : p.ret.purge.running = true) {v : Tenant} (found : tenantAt p.ret p.ret.purge.tenant = some v)
    (form : CredsForm p.ret.creds)
    (last : v.count = 0 ∨ ∀ b : Badge, p.ret.purge.position < b.toNat → credAt p.ret b = none) :
    p.purgeVisit = p.endPurge := by
  have there : p.tenant p.ret.purge.tenant = some v := found
  rw [Part.purgeVisit, running, Part.purgeCount, there]
  dsimp only
  rcases last with empty | bare
  · simp [empty]
  · rw [next_eq_none_of_none_above form bare]
    simp

theorem purgeVisit_visits (running : p.ret.purge.running = true) {v : Tenant} (found : tenantAt p.ret p.ret.purge.tenant = some v)
    (form : CredsForm p.ret.creds) {b : Badge} {c : Cred} (counted : v.count ≠ 0) (above : p.ret.purge.position < b.toNat)
    (record : credAt p.ret b = some c)
    (least : ∀ d : Badge, p.ret.purge.position < d.toNat → d < b → credAt p.ret d = none) : p.purgeVisit =
      (if c.tenant = p.ret.purge.tenant then p.retire b else p).withPurge { p.ret.purge with position := b.toNat } := by
  have there : p.tenant p.ret.purge.tenant = some v := found
  have badge : (BitVec.ofNat 40 b.toNat : Badge) = b := by simp
  rw [Part.purgeVisit, running, Part.purgeCount, there]
  dsimp only
  rw [next_eq_some_of_least form above record least, Bool.not_true, if_neg Bool.false_ne_true, if_neg counted]
  dsimp only
  rw [Part.purgeRecord, badge]

theorem sweepVisit_ends (running : p.ret.sweep.running = true) (form : CredsForm p.ret.creds)
    (bare : ∀ b : Badge, p.ret.sweep.position < b.toNat → credAt p.ret b = none) : p.sweepVisit = p.endSweep := by
  rw [Part.sweepVisit, running, next_eq_none_of_none_above form bare]
  rfl

theorem sweepVisit_visits (running : p.ret.sweep.running = true) (form : CredsForm p.ret.creds) {b : Badge} {c : Cred}
    (above : p.ret.sweep.position < b.toNat) (record : credAt p.ret b = some c)
    (least : ∀ d : Badge, p.ret.sweep.position < d.toNat → d < b → credAt p.ret d = none) : p.sweepVisit =
      if pastGrace c p.ret.params.sweepGrace p.ret.sweep.day then (p.retire b).withSweep { p.ret.sweep with
        position := b.toNat, count := min (p.ret.sweep.count + 1) Config.sweepCountMax }
      else p.withSweep { p.ret.sweep with position := b.toNat } := by
  have badge : (BitVec.ofNat 40 b.toNat : Badge) = b := by simp
  rw [Part.sweepVisit, running, next_eq_some_of_least form above record least]
  dsimp only
  rw [Bool.not_true, if_neg Bool.false_ne_true, Part.sweepRecord, badge]

theorem pastGrace_iff (c : Cred) (grace : Nat) (day : Half) :
    pastGrace c grace day = true ↔ ∃ d, c.validTo = some d ∧ d.toNat + grace < day.toNat := by
  unfold pastGrace
  cases c.validTo <;> simp

/-- What a retirement leaves, beside a change of a walker. -/
theorem retired_records {b : Badge} {c : Cred} (found : p.cred b = some c) : credAt (p.retire b).ret b = none ∧
    (∀ d, d ≠ b → credAt (p.retire b).ret d = credAt p.ret d) ∧
    ∀ t, tenantAt (p.retire b).ret t = (tenantAt p.ret t).map fun w =>
      { w with count := w.count - if t = c.tenant ∧ t ≠ 0 then 1 else 0 } := by
  obtain ⟨-, ret⟩ := retire_spec found
  refine ⟨?_, fun d other => ?_, retire_tenant found⟩
  · rw [credAt, ret]
    exact (credAt_erase p.ret b b).trans (if_pos rfl)
  · rw [credAt, ret]
    exact (credAt_erase p.ret b d).trans (if_neg other)

theorem retire_withPurge {b : Badge} {c : Cred} (found : p.cred b = some c) (w : PurgeWalker) :
    (p.retire b).withPurge w = ⟨{ p.ret with
      creds := (p.retire b).ret.creds, tenants := (p.retire b).ret.tenants, purge := w },
      { p.main with tickets := p.main.tickets.filter fun t => decide (t.badge ≠ b) }⟩ := by
  unfold Part.withPurge
  rw [(retire_spec found).1, (retire_frame p b).1]

theorem retire_withSweep {b : Badge} {c : Cred} (found : p.cred b = some c) (w : SweepWalker) :
    (p.retire b).withSweep w = ⟨{ p.ret with
      creds := (p.retire b).ret.creds, tenants := (p.retire b).ret.tenants, sweep := w },
      { p.main with tickets := p.main.tickets.filter fun t => decide (t.badge ≠ b) }⟩ := by
  unfold Part.withSweep
  rw [(retire_spec found).1, (retire_frame p b).1]

end Sys2Proof.Laws

namespace Sys2Proof.Proofs

open Sys2Proof.Machine Sys2Proof.Safety Sys2Proof.Laws

/-- Settles O15: a tenant's record is written at its place. -/
theorem tenantsCreatedAndChanged : Obligations.TenantsCreatedAndChanged := by
  refine ⟨fun s m tag f ready nonzero ok => ⟨fun absent => ?_, fun v found unpurged free => ?_⟩, fun s m tag f ready =>
    ⟨refusedInOrder_of (exec_tenantCreate tag _ s) ready (takeTenantCreate_eq f _),
      refusedInOrder_of (exec_tenantFloors tag _ s) ready (takeTenantFloors_eq f _)⟩⟩
  · have nonzero : ¬f.tenant = 0#8 := nonzero
    let p := partOf s (listening m)
    have took : takeTenantCreate f p = done (p.putTenant f.tenant ⟨.live, f.grants, 0⟩) .nothing := by
      rw [takeTenantCreate_eq, checked_of_passing]
      simp [createChecks, nonzero, ok, absent, p]
    exact ⟨_, doneWith_of (exec_tenantCreate tag _ s) ready took rfl rfl, rfl, lookup_put_self _ _ _,
      fun t other => tenantAt_put_ne s.ret other _⟩
  · have nonzero : ¬f.tenant = 0#8 := nonzero
    let p := partOf s (listening m)
    have there : p.tenant f.tenant = some v := found
    have idle : inOverlay m f.tenant = false := inOverlay_eq_false free
    have took : takeTenantFloors f p = done (p.putTenant f.tenant { v with grants := f.grants }) .nothing := by
      rw [takeTenantFloors_eq, checked_of_passing, there]
      · rfl
      · simp [floorsChecks, tenantChecks, nonzero, ok, found, unpurged, idle, p]
    exact ⟨_, doneWith_of (exec_tenantFloors tag _ s) ready took rfl rfl, rfl, lookup_put_self _ _ _,
      fun t other => tenantAt_put_ne s.ret other _⟩

/-- Settles O16: a tenant's record is rewritten with its new state, and TENANT_PURGE starts the walker. -/
theorem tenantsSuspendedAndPurged : Obligations.TenantsSuspendedAndPurged := by
  refine ⟨fun s m tag t v ready nonzero found => ?_, fun s m tag t ready =>
    ⟨refusedInOrder_of (exec_tenantSuspend tag _ s) ready (takeTenantSuspend_eq t _),
      refusedInOrder_of (exec_tenantReinstate tag _ s) ready (takeTenantReinstate_eq t _),
      refusedInOrder_of (exec_tenantPurge tag _ s) ready (takeTenantPurge_eq t _)⟩⟩
  let p := partOf s (listening m)
  have there : p.tenant t = some v := found
  refine ⟨fun unpurged => ?_, fun suspended => ?_, fun suspended idle free => ?_⟩
  · have took : takeTenantSuspend t p =
        done ((p.putTenant t { v with state := .suspended }).removeTenantTickets t) .nothing :=
      (onTenant_present nonzero there _).trans (if_neg unpurged)
    exact ⟨_, doneWith_of (exec_tenantSuspend tag _ s) ready took rfl (removeTenantTickets_eq _ _), rfl,
      lookup_put_self _ _ _, fun x other => tenantAt_put_ne s.ret other _⟩
  · have took : takeTenantReinstate t p = done (p.putTenant t { v with state := .live }) .nothing :=
      (onTenant_present nonzero there _).trans (if_pos suspended)
    exact ⟨_, doneWith_of (exec_tenantReinstate tag _ s) ready took rfl rfl, rfl, lookup_put_self _ _ _,
      fun x other => tenantAt_put_ne s.ret other _⟩
  · have nonzero : ¬t = 0#8 := nonzero
    have unnamed : inOverlay m t = false := inOverlay_eq_false free
    have took : takeTenantPurge t p =
        done ((p.putTenant t { v with state := .purging }).withPurge ⟨true, t, 0⟩) .nothing := by
      rw [takeTenantPurge_eq, checked_of_passing, there]
      · rfl
      · simp [purgeChecks, tenantChecks, nonzero, found, idle, suspended, unnamed, p]
    exact ⟨_, doneWith_of (exec_tenantPurge tag _ s) ready took rfl rfl, rfl, lookup_put_self _ _ _,
      fun x other => tenantAt_put_ne s.ret other _⟩

/-- Settles O17: the walker's next record is the least badge above its position. -/
theorem purgeVisitTakesOneRecord : Obligations.PurgeVisitTakesOneRecord := by
  refine ⟨fun s m running idle => ?_, fun s m v running tables walks found => ⟨fun last => ?_,
    fun b c counted above record least => ⟨fun other => ?_, fun names => ?_⟩⟩⟩
  · rw [exec_purgeVisit, whileRunning_running running, Part.purgeVisit]
    dsimp only
    rw [idle]
    exact congrArg _ (withPart_self running)
  all_goals
    let p := partOf s m
    rw [exec_purgeVisit, whileRunning_running running]
  · refine ⟨p.endPurge.ret, ?_, rfl, lookup_erase_self _ _, fun t other => ?_⟩
    · exact congrArg (fun q : Part => Host.Outcome.next (s.withPart q)) (purgeVisit_ends (p := p) walks found tables.1 last)
    · exact lookup_erase_ne _ _ _ fun same => other (BitVec.eq_of_toNat_eq same)
  · have visit := purgeVisit_visits (p := p) walks found tables.1 counted above record least
    rw [if_neg other] at visit
    exact congrArg (fun q : Part => Host.Outcome.next (s.withPart q)) visit
  · have visit := purgeVisit_visits (p := p) walks found tables.1 counted above record least
    rw [if_pos names] at visit
    have there : p.cred b = some c := record
    rw [retire_withPurge there] at visit
    exact ⟨_, congrArg (fun q : Part => Host.Outcome.next (s.withPart q)) visit, rfl, retired_records there⟩

/-- Settles O18: a slot is written or freed at its place, and a commit writes its grants into its tenant. -/
theorem overlaySlots : Obligations.OverlaySlots := by
  refine ⟨⟨fun s m tag f v ready place nonzero absent found unpurged free => ?_, fun s m tag slot o ready place used =>
      ?_⟩, fun s m tag slot ready =>
    ⟨fun f => refusedInOrder_of (exec_overlayOpen tag _ s) ready (takeOverlayOpen_eq f _),
      fun gs => refusedInOrder_of (exec_overlayEdit tag _ s) ready (onOverlay_checked slot _ _ _),
      fun code => refusedInOrder_of (exec_overlayApply tag _ s) ready (onOverlay_checked slot _ _ _),
      refusedInOrder_of (exec_overlayCommit tag _ s) ready (onOverlay_checked slot _ _ _),
      refusedInOrder_of (exec_overlayDiscard tag _ s) ready (onOverlay_checked slot _ _ _)⟩⟩
  · have nonzero : ¬f.tenant = 0#8 := nonzero
    let p := partOf s (listening m)
    have there : p.tenant f.tenant = some v := found
    have unnamed : inOverlay m f.tenant = false := inOverlay_eq_false free
    have took : takeOverlayOpen f p = done (p.putOverlay f.slot ⟨f.tenant, v.grants, none⟩) .nothing := by
      rw [takeOverlayOpen_eq, checked_of_passing, there]
      · rfl
      · simp [openChecks, place, nonzero, absent, found, unpurged, unnamed, p]
    exact ⟨_, doneWith_of (exec_overlayOpen tag _ s) ready took rfl rfl, lookup_put_self _ _ _, fun n other =>
      lookup_put_ne _ _ _ _ other⟩
  · let p := partOf s (listening m)
    have there : p.overlay slot = some o := used
    refine ⟨fun gs ok => ?_, fun code scope ok => ?_, ?_, ?_⟩
    · have took : takeOverlayEdit ⟨slot, gs⟩ p = done (p.putOverlay slot { o with grants := gs }) .nothing :=
        onOverlay_present place there ok _
      exact ⟨_, doneWith_of (exec_overlayEdit tag _ s) ready took rfl rfl,
        lookup_put_self _ _ _, fun n other => lookup_put_ne _ _ _ _ other⟩
    · have took : takeOverlayApply ⟨slot, code⟩ p = done (p.putOverlay slot { o with scope := some scope }) .nothing := by
        rw [← ok]
        exact onOverlay_present place there (by rw [ok]; rfl) _
      exact ⟨_, doneWith_of (exec_overlayApply tag _ s) ready took rfl rfl, lookup_put_self _ _ _, fun n other =>
        lookup_put_ne _ _ _ _ other⟩
    · obtain ⟨main, ret, -⟩ := modTenant_spec p o.tenant fun v => { v with grants := o.grants }
      refine ⟨_, Table.erase m.overlays slot.toNat, doneWith_of (exec_overlayCommit tag _ s) ready
        (onOverlay_present place there rfl _) rfl ?_, ret, fun t => ?_, lookup_erase_self _ _, fun n other =>
        lookup_erase_ne _ _ _ other⟩
      · rw [Part.freeOverlay, withOverlays_main, main]
      · refine (tenant_modTenant p o.tenant t _).trans ?_
        split
        · rfl
        · exact (Option.map_id_apply ..).symm
    · exact ⟨_, doneWith_of (exec_overlayDiscard tag _ s) ready (onOverlay_present place there rfl _) rfl rfl,
        lookup_erase_self _ _, fun n other => lookup_erase_ne _ _ _ other⟩

/-- Settles O21: the walker's next record is the least badge above its position, retired when it is past its grace. -/
theorem sweepVisitTakesOneRecord : Obligations.SweepVisitTakesOneRecord := by
  intro s m running tables
  let p := partOf s m
  rw [exec_sweepVisit, whileRunning_running running]
  refine ⟨fun idle => ?_, fun walks => ⟨fun bare => ?_, fun b c above record least => ⟨fun stays => ?_,
    fun d ends past => ?_⟩⟩⟩
  · rw [Part.sweepVisit]
    dsimp only
    rw [idle]
    exact congrArg _ (withPart_self running)
  · exact congrArg (fun q : Part => Host.Outcome.next (s.withPart q)) (sweepVisit_ends (p := p) walks tables.1 bare)
  · have visit := sweepVisit_visits (p := p) walks tables.1 above record least
    rw [if_neg fun past => by
      obtain ⟨d, ends, early⟩ := (pastGrace_iff _ _ _).1 past
      exact absurd early (Nat.not_lt.2 (stays d ends))] at visit
    exact congrArg (fun q : Part => Host.Outcome.next (s.withPart q)) visit
  · have visit := sweepVisit_visits (p := p) walks tables.1 above record least
    rw [if_pos ((pastGrace_iff _ _ _).2 ⟨d, ends, past⟩)] at visit
    have there : p.cred b = some c := record
    rw [retire_withSweep there] at visit
    exact ⟨_, congrArg (fun q : Part => Host.Outcome.next (s.withPart q)) visit, rfl, retired_records there⟩

end Sys2Proof.Proofs
end

section
/-! SUPPORT. The commands of the calendar unit and of the building map by their checks, and the calendar's advance
(chapters 3 and 4). -/

namespace Sys2Proof.Laws

open Sys2Proof.Machine Sys2Proof.Safety

variable {p : Part} {s : State}

/-! ## The calendar's advance (R53, R54) -/

theorem advances_iff (r : Retention) : r.advances = true ↔ r.intact = true ∧ r.calendar.valid = true := by
  rw [Retention.advances, Bool.and_eq_true]

theorem rollDay_last {r : Retention} (last : r.calendar.day = 65535#16) :
    r.rollDay = { r with calendar := ⟨false, 65535#16, 1439, 59⟩ } := if_pos last

theorem rollDay_next {r : Retention} (other : r.calendar.day ≠ 65535#16) : r.rollDay = { r with
    calendar := ⟨true, r.calendar.day + 1, 0, 0⟩, sweep := r.sweep.trigger (r.calendar.day + 1) } := if_neg other

theorem rollMinute_early {r : Retention} (early : r.calendar.minute < 1439) :
    r.rollMinute = { r with calendar := ⟨true, r.calendar.day, r.calendar.minute + 1, 0⟩ } := if_pos early

theorem rollMinute_last {r : Retention} (last : ¬r.calendar.minute < 1439) : r.rollMinute = r.rollDay := if_neg last

theorem tick_early {r : Retention} (early : r.calendar.second < 59) :
    r.tick = { r with calendar := ⟨true, r.calendar.day, r.calendar.minute, r.calendar.second + 1⟩ } := if_pos early

theorem tick_last {r : Retention} (last : ¬r.calendar.second < 59) : r.tick = r.rollMinute := if_neg last

theorem exec_secondAdvance_running (on : s.ret.advances = true) :
    exec .secondAdvance s = .next { s with ret := s.ret.tick } := congrArg Host.Outcome.next (if_pos on)

theorem exec_minuteAdvance_running (on : s.ret.advances = true) (last : 59 ≤ s.ret.calendar.second) :
    exec .minuteAdvance s = .next { s with ret := s.ret.rollMinute } :=
  congrArg Host.Outcome.next (if_pos (by rw [on, decide_eq_true last]; rfl))

theorem exec_dayRollover_running (on : s.ret.advances = true) (last : 59 ≤ s.ret.calendar.second)
    (midnight : 1439 ≤ s.ret.calendar.minute) : exec .dayRollover s = .next { s with ret := s.ret.rollDay } :=
  congrArg Host.Outcome.next (if_pos (by rw [on, decide_eq_true last, decide_eq_true midnight]; rfl))

theorem exec_secondAdvance_stopped (off : s.ret.advances = false) : exec .secondAdvance s = .next s := by
  rw [exec_secondAdvance, execSecondAdvance, off]; rfl

theorem exec_minuteAdvance_idle (idle : s.ret.advances = false ∨ s.ret.calendar.second < 59) :
    exec .minuteAdvance s = .next s := by
  have no : ¬(s.ret.advances && decide (59 ≤ s.ret.calendar.second)) = true := by
    rw [Bool.and_eq_true, decide_eq_true_eq]
    rintro ⟨on, last⟩
    rcases idle with off | early
    · rw [on] at off; cases off
    · omega
  exact congrArg Host.Outcome.next (if_neg no)

theorem exec_dayRollover_idle (idle : s.ret.advances = false ∨ s.ret.calendar.second < 59 ∨ s.ret.calendar.minute < 1439) :
    exec .dayRollover s = .next s := by
  have no : ¬(s.ret.advances && decide (59 ≤ s.ret.calendar.second) && decide (1439 ≤ s.ret.calendar.minute)) = true := by
    rw [Bool.and_eq_true, Bool.and_eq_true, decide_eq_true_eq, decide_eq_true_eq]
    rintro ⟨⟨on, last⟩, midnight⟩
    rcases idle with off | early | early
    · rw [on] at off; cases off
    · omega
    · omega
  exact congrArg Host.Outcome.next (if_neg no)

/-! ## Schedules (R57, R60) -/

theorem inForce_iff (p : Part) (n : Byte) : p.inForce n = true ↔ n = 0 ∨ p.ret.calendar.valid = true ∧
    ∃ w ∈ p.windowsOf n.toNat, inSet w.days (dayTypeOf p.ret.holidays p.ret.calendar.day).code = true ∧
      w.start.toNat ≤ p.ret.calendar.minute ∧ p.ret.calendar.minute < w.stop.toNat := by
  unfold Part.inForce Retention.dayType
  cases p.ret.calendar.valid with
  | false => simp
  | true => simp [windowMatches, and_assoc]

theorem weekday_eq (d : Half) :
    some (weekday d) = [DayType.mon, .tue, .wed, .thu, .fri, .sat, .sun][d.toNat % 7]? := by
  unfold weekday
  have small : d.toNat % 7 < 7 := Nat.mod_lt _ (by decide)
  generalize d.toNat % 7 = k at small
  interval_cases k <;> rfl

/-! ## The map's commands by their checks -/

theorem not_landingOk (l : Byte) : (!landingOk l) = decide (127 < l.toNat) := by
  rw [landingOk, ← decide_not]
  exact decide_eq_decide.2 Nat.not_le

theorem not_groupOk (g : Byte) : (!groupOk g) = decide (7 < g.toNat) := by
  rw [groupOk, ← decide_not]
  exact decide_eq_decide.2 (Nat.not_lt.trans Nat.lt_iff_add_one_le.symm)

theorem not_dropOk (d : Byte) : (!dropOk d) = decide (95 < d.toNat) := by
  rw [dropOk, ← decide_not]
  exact decide_eq_decide.2 (Nat.not_lt.trans Nat.lt_iff_add_one_le.symm)

theorem skyInUse_eq (p : Part) (low high : Byte) : p.skyInUse low high =
    ((p.ret.transfers.any fun e => decide (low ≤ e.2.landing ∧ e.2.landing ≤ high ∧
        Table.get .closed p.ret.landings e.2.landing.toNat = .sky)) ||
      p.ret.drops.any fun e => decide (e.2.kind = .sky ∧ low ≤ e.2.landing ∧ e.2.landing ≤ high ∧
        Table.get .closed p.ret.landings e.2.landing.toNat = .sky)) := by
  simp only [Part.skyInUse, Part.kindOf, Bool.decide_and, Bool.and_assoc]
  rfl

/-- The part with every landing of a range set to a kind. -/
def withLandings (p : Part) (f : LandingFields) (kind : LandingKind) : Part :=
  { p with ret := { p.ret with landings := setLandings p.ret.landings f.low.toNat f.high.toNat kind } }

theorem takeLandingSet_eq (f : LandingFields) (p : Part) : takeLandingSet f p = checked p (landingChecks p.ret f)
    ((LandingKind.ofCode f.kind).elim (refuse p .badValue) fun kind => done (withLandings p f kind) .nothing) := by
  simp only [takeLandingSet, checked, landingChecks, not_landingOk, ← skyInUse_eq]
  cases LandingKind.ofCode f.kind with
  | none => simp
  | some kind => simp [withLandings]

theorem transferNeeds_eq (p : Part) (g : Byte) (ranges : List LandingRange) : p.transferNeeds g ranges =
    p.ret.transfers.any fun e => decide (e.2.first = g ∨ e.2.second = g) && !inRanges ranges e.2.landing := by
  simp only [Part.transferNeeds, Bool.decide_or]

theorem takeGroupSet_eq (f : GroupFields) (p : Part) : takeGroupSet f p = checked p (groupChecks p.ret f)
    (done (if p.groupSetNotifies f then (p.putGroup f.group ⟨f.ranges, f.recallLanding⟩).notice f.group.toNat
      else p.putGroup f.group ⟨f.ranges, f.recallLanding⟩) .nothing) := by
  simp only [takeGroupSet, checked, groupChecks, not_landingOk, not_groupOk, transferNeeds_eq]
  rfl

theorem takeGroupClear_eq (g : Byte) (p : Part) : takeGroupClear g p = checked p (clearChecks p.ret g)
    (done { p with ret := { p.ret with groups := Table.erase p.ret.groups g.toNat } } .nothing) := by
  simp only [takeGroupClear, checked, clearChecks, not_groupOk, Part.groupNamed, Bool.decide_or]
  rfl

theorem takeTransferSet_eq (f : TransferFields) (p : Part) : takeTransferSet f p = checked p (transferChecks p.ret f)
    (done { p with ret := { p.ret with
      transfers := Table.put p.ret.transfers f.position.toNat ⟨f.first, f.landing, f.second⟩ } } .nothing) := by
  have place : decide (Config.transfers ≤ f.position.toNat) = decide (15 < f.position.toNat) := rfl
  simp only [takeTransferSet, checked, transferChecks, not_landingOk, not_groupOk, place, decide_eq_true_eq]
  rfl

/-! ## PANEL_SET by its checks (R80, R81) -/

theorem not_allServe (p : Part) (groups : Set8) (landing : Byte) : (!p.allServe groups landing) =
    eight.any fun g => inSet groups g && !served p.ret (byte g) landing := by
  rw [Part.allServe, List.not_all_eq_any_not]
  refine congrArg (List.any eight) (funext fun g => ?_)
  rw [Bool.not_or, Bool.not_not]
  rfl

/-- The drop and the configuration of a PANEL_SET, when its operands are in order. -/
def panelConfig : PanelFields → Option (Byte × Option DropConfig)
  | .configure drop code landing groups =>
    (DropKind.ofCode code).map fun kind => (drop, some ⟨kind, landing, groups⟩)
  | .unconfigure drop => some (drop, none)

theorem takePanelSet_eq (f : PanelFields) (p : Part) : takePanelSet f p = checked p (panelChecks p.ret p.main f)
    ((panelConfig f).elim (refuse p .badValue) fun c => done (p.configureDrop c.1.toNat c.2) .nothing) := by
  cases f with
  | configure drop code landing groups =>
    simp only [takePanelSet, checked, panelChecks, not_landingOk, not_dropOk, not_allServe, panelConfig]
    cases DropKind.ofCode code with
    | none => simp
    | some kind =>
      simp only [Option.isNone_some, Bool.or_false, Option.some.injEq, Option.map_some, Option.elim_some, ne_eq,
        Bool.and_eq_true, decide_eq_true_eq]
      rfl
  | unconfigure drop =>
    simp only [takePanelSet, checked, panelChecks, not_dropOk]
    rfl

/-- A link with a configured drop has a poll outstanding once it may send one. -/
theorem sendPoll_outstanding (p : Part) {l a : Nat} (small : a < 16)
    (config : (Table.lookup p.ret.drops (16 * l + a)).isSome = true) : ((p.sendPoll l).panelLink l).poll.isSome = true := by
  have listed : a ∈ p.polledAddresses l := (mem_polledAddresses p l a).2 ⟨small, config⟩
  have next : ∃ b, p.nextAddress l = some b := by
    obtain ⟨first, rest, list⟩ := List.exists_cons_of_ne_nil (List.ne_nil_of_mem listed)
    unfold Part.nextAddress
    rw [list]
    dsimp only
    split
    · exact ⟨first, rfl⟩
    next q _ =>
      cases found : (first :: rest).find? (fun a => decide (q < a)) with
      | none => exact ⟨first, rfl⟩
      | some b => exact ⟨b, rfl⟩
  obtain ⟨b, next⟩ := next
  unfold Part.sendPoll
  dsimp only
  split
  next outstanding => exact outstanding
  next =>
    rw [next]
    dsimp only
    rw [panelLink_setLink_self]
    rfl

end Sys2Proof.Laws

namespace Sys2Proof.Proofs

open Sys2Proof.Machine Sys2Proof.Safety Sys2Proof.Laws

/-- Settles O19: each event by the carries that the second makes. -/
theorem calendarAdvances : Obligations.CalendarAdvances := by
  intro s day minute second
  refine ⟨fun stopped => ?_, fun intact calendar => ?_⟩
  · have off : s.ret.advances = false := by
      rw [Bool.eq_false_iff, ne_eq, advances_iff]
      rintro ⟨on, valid⟩
      rcases stopped with lost | invalid
      · rw [on] at lost; cases lost
      · rw [valid] at invalid; cases invalid
    exact ⟨exec_secondAdvance_stopped off, exec_minuteAdvance_idle (.inl off), exec_dayRollover_idle (.inl off)⟩
  · have on : s.ret.advances = true := (advances_iff _).2 ⟨intact, by rw [calendar]⟩
    have atSecond : s.ret.calendar.second = second := by rw [calendar]
    have atMinute : s.ret.calendar.minute = minute := by rw [calendar]
    have atDay : s.ret.calendar.day = day := by rw [calendar]
    have minuteRolls : second = 59 → ∀ c, c = Instr.secondAdvance ∨ c = .minuteAdvance →
        exec c s = .next { s with ret := s.ret.rollMinute } := by
      rintro last c (rfl | rfl)
      · rw [exec_secondAdvance_running on, tick_last (by omega)]
      · exact exec_minuteAdvance_running on (by omega)
    have dayRolls : second = 59 → minute = 1439 → ∀ c, c = Instr.secondAdvance ∨ c = .minuteAdvance ∨ c = .dayRollover →
        exec c s = .next { s with ret := s.ret.rollDay } := by
      rintro last midnight c (rfl | rfl | rfl)
      · rw [minuteRolls last _ (.inl rfl), rollMinute_last (by omega)]
      · rw [minuteRolls last _ (.inr rfl), rollMinute_last (by omega)]
      · exact exec_dayRollover_running on (by omega) (by omega)
    refine ⟨fun early => exec_dayRollover_idle (.inr (by omega)), fun early => exec_minuteAdvance_idle (.inr (by omega)),
      fun early => ?_, fun last early c which => ?_, fun last midnight other c which => ?_,
      fun last midnight ends c which => ?_⟩
    · rw [exec_secondAdvance_running on, tick_early (by omega), calendar]
    · rw [minuteRolls last c which, rollMinute_early (by omega), calendar]
    · rw [dayRolls last midnight c which, rollDay_next (by rw [atDay]; exact other), calendar]
      rfl
    · rw [dayRolls last midnight c which, rollDay_last (by rw [atDay]; exact ends)]

/-- Settles O20: each command by its one check. -/
theorem calendarUnitIsSet : Obligations.CalendarUnitIsSet := by
  refine ⟨fun s m tag f ready => ⟨fun late => ?_, fun fits => ?_⟩, fun s m tag ready => ⟨fun days ok => ?_,
    fun days bad => ?_, fun f nonzero last ok => ?_, fun f bad => ?_, fun f k code low high => ?_, fun f bad => ?_⟩⟩
  · exact refusedWith_of (exec_calSet tag _ s) ready (if_pos late)
  · refine doneWith_of (exec_calSet tag _ s) ready (if_neg (Nat.not_lt.2 fits)) ?_ rfl
    have triggers : calSetTriggers s.ret.calendar f.day = true ↔
        s.ret.calendar.valid = false ∨ f.day ≠ s.ret.calendar.day := by simp [calSetTriggers]
    simp only [Retention.setCalendar, triggers]
    rfl
  · exact doneWith_of (exec_holidaySet tag _ s) ready (by rw [takeHolidaySet, ok]; rfl) rfl rfl
  · exact refusedWith_of (exec_holidaySet tag _ s) ready (by rw [takeHolidaySet, bad]; rfl)
  · have place : scheduleOk f.schedule = true := by
      rw [scheduleOk, Bool.and_eq_true, decide_eq_true_eq, decide_eq_true_eq]
      exact ⟨nonzero, last⟩
    exact ⟨_, doneWith_of (exec_schedSet tag _ s) ready (by rw [takeSchedSet, place, ok]; rfl) rfl rfl,
      get_set_self _ _ _ _, fun n other => get_set_ne _ _ _ _ _ other⟩
  · refine refusedWith_of (exec_schedSet tag _ s) ready (if_pos ?_)
    rw [← Bool.not_and, Bool.not_eq_true', Bool.eq_false_iff, ne_eq, Bool.and_eq_true, scheduleOk, Bool.and_eq_true,
      decide_eq_true_eq, decide_eq_true_eq]
    rintro ⟨⟨nonzero, last⟩, ok⟩
    rcases bad with zero | late | ill
    · exact nonzero zero
    · exact Nat.not_lt.2 last late
    · rw [ok] at ill; cases ill
  · have allowed : k.allows f.value.toNat = true := by simp [Param.allows, low, high]
    refine ⟨s.ret.params.put k f.value.toNat, doneWith_of (exec_paramSet tag _ s) ready
      (by rw [takeParamSet, code]; exact if_pos allowed) rfl rfl, value_put_self _ _ _, fun k' other => value_put_ne _ other _⟩
  · refine refusedWith_of (exec_paramSet tag _ s) ready ?_
    rw [takeParamSet]
    cases code : Param.ofCode f.parameter with
    | none => rfl
    | some k =>
      refine if_neg fun allowed => ?_
      rw [Param.allows, Bool.and_eq_true, decide_eq_true_eq, decide_eq_true_eq] at allowed
      have := bad k code
      omega

/-- Settles O22: from the window test, and the weekday of each remainder. -/
theorem schedulesInForce : Obligations.SchedulesInForce := by
  intro p n days d
  refine ⟨inForce_iff p n, fun listed => if_pos listed, fun absent => ?_⟩
  rw [dayTypeOf, if_neg absent]
  exact weekday_eq d

/-- Settles O23: the landings of the range are set, each once, where no SKY landing in use lies in it. -/
theorem landingsAreSet : Obligations.LandingsAreSet := by
  refine ⟨fun s m tag f kind ready low high ordered code => ?_, fun s m tag f ready =>
    refusedInOrder_of (exec_landingSet tag _ s) ready (takeLandingSet_eq f _)⟩
  let p := partOf s (listening m)
  have place : (!landingOk f.low || !landingOk f.high || decide (f.high < f.low)) = false := by
    have order : ¬f.high < f.low := by bv_omega
    simp [not_landingOk, low, high, order]
  have used : p.skyInUse f.low f.high = true ↔
      (∃ e ∈ s.ret.transfers, f.low ≤ e.2.landing ∧ e.2.landing ≤ f.high ∧ p.kindOf e.2.landing = .sky) ∨
      ∃ e ∈ s.ret.drops, e.2.kind = .sky ∧ f.low ≤ e.2.landing ∧ e.2.landing ≤ f.high ∧ p.kindOf e.2.landing = .sky := by
    rw [skyInUse_eq, Bool.or_eq_true, List.any_eq_true, List.any_eq_true]
    simp only [decide_eq_true_eq]
    rfl
  have took : takeLandingSet f p = if decide (kind ≠ .sky) && p.skyInUse f.low f.high then refuse p .wrongState
      else done (withLandings p f kind) .nothing := by
    rw [takeLandingSet, place, code]
    rfl
  refine ⟨fun free => ?_, fun other inUse => ?_⟩
  · have clear : ¬(decide (kind ≠ .sky) && p.skyInUse f.low f.high) = true := by
      rw [Bool.and_eq_true, decide_eq_true_eq, used]
      rintro ⟨other, inUse⟩
      obtain ⟨transfers, drops⟩ := free.resolve_left other
      rcases inUse with ⟨e, mem, above, below, sky⟩ | ⟨e, mem, isSky, above, below, sky⟩
      · exact transfers e mem above below sky
      · exact drops e mem isSky above below sky
    refine ⟨_, doneWith_of (exec_landingSet tag _ s) ready (took.trans (if_neg clear)) rfl rfl, fun n => ?_⟩
    have order : f.low.toNat ≤ f.high.toNat := ordered
    refine (get_setRange s.ret.landings kind _ _ n).trans (if_congr ?_ rfl rfl)
    omega
  · exact refusedWith_of (exec_landingSet tag _ s) ready (took.trans (if_pos (by
      rw [Bool.and_eq_true, decide_eq_true_eq, used]; exact ⟨other, inUse⟩)))

/-- Settles O24: an entry is written or taken out at its place, and a notice goes where GROUP_SET tells the dispatcher. -/
theorem groupsAndTransfersAreSet : Obligations.GroupsAndTransfersAreSet := by
  refine ⟨⟨⟨fun s m tag f ready place ranges landing homed transfers drops => ?_, fun s m tag g ready place transfers
      drops => ?_⟩, fun s m tag f ready place first second landing apart sky serve serve' => ?_, fun s m tag n ready =>
      ⟨fun place => ?_, fun late => refusedWith_of (exec_transferClear tag _ s) ready (if_pos late)⟩⟩,
    fun s m tag ready => ⟨fun f => refusedInOrder_of (exec_groupSet tag _ s) ready (takeGroupSet_eq f _),
      fun g => refusedInOrder_of (exec_groupClear tag _ s) ready (takeGroupClear_eq g _),
      fun f => refusedInOrder_of (exec_transferSet tag _ s) ready (takeTransferSet_eq f _)⟩⟩
  all_goals let p := partOf s (listening m)
  · let q := p.putGroup f.group ⟨f.ranges, f.recallLanding⟩
    have took : takeGroupSet f p = done (if p.groupSetNotifies f then q.notice f.group.toNat else q) .nothing := by
      rw [takeGroupSet_eq, checked_of_passing]
      have early : ¬7 < f.group.toNat := by omega
      have low : ¬127 < f.recallLanding.toNat := Nat.not_lt.2 landing
      have unneeded : ∀ e ∈ s.ret.transfers, (e.2.first = f.group ∨ e.2.second = f.group) →
        inRanges f.ranges e.2.landing = true := transfers
      simp only [groupChecks, List.forall_mem_cons]
      refine ⟨by simp [early, low, ranges], by rw [homed]; rfl, ?_, ?_, nofun⟩
      · rw [List.any_eq_false]
        intro e mem needs
        rw [Bool.and_eq_true, decide_eq_true_eq] at needs
        rw [transfers e mem needs.1] at needs
        cases needs.2
      · rw [List.any_eq_false]
        intro e mem needs
        rw [Bool.and_eq_true] at needs
        rw [drops e mem needs.1] at needs
        cases needs.2
    have notifies : p.groupSetNotifies f = true ↔ Table.lookup s.ret.groups f.group.toNat = none ∨
        Table.get .normal m.modes f.group.toNat = .recalled ∧
          (Table.lookup s.ret.groups f.group.toNat).map GroupEntry.recallLanding ≠ some f.recallLanding := by
      have groups : p.ret.groups = s.ret.groups := rfl
      unfold Part.groupSetNotifies
      rw [groups]
      cases Table.lookup s.ret.groups f.group.toNat with
      | none => simp
      | some old =>
        rw [Bool.and_eq_true, decide_eq_true_eq, decide_eq_true_eq]
        simp [p, Part.mode]
    refine ⟨_, (if p.groupSetNotifies f then q.notice f.group.toNat else q).main.sendQueue,
      doneWith_of (exec_groupSet tag _ s) ready took (r := q.ret) ?_ ?_, lookup_put_self _ _ _,
      fun n other => lookup_put_ne _ _ _ _ other, ?_⟩
    · split
      · exact notice_ret _ _
      · rfl
    · split
      · exact notice_main _ _
      · rfl
    · rw [ite_and, if_congr notifies.symm rfl rfl]
      split
      · have told : q.recallLandingOf f.group.toNat = some f.recallLanding :=
          congrArg (Option.map GroupEntry.recallLanding) (lookup_put_self _ _ _)
        rw [Part.notice, send_spec, told, byte_of_toNat]
        rfl
      · rfl
  · have took : takeGroupClear g p =
        done { p with ret := { p.ret with groups := Table.erase p.ret.groups g.toNat } } .nothing := by
      rw [takeGroupClear_eq, checked_of_passing]
      have early : ¬7 < g.toNat := by omega
      simp only [clearChecks, List.forall_mem_cons]
      refine ⟨decide_eq_false early, ?_, nofun⟩
      rw [Bool.or_eq_false_iff, List.any_eq_false, List.any_eq_false]
      refine ⟨fun e mem => ?_, fun e mem => Bool.eq_false_iff.1 (drops e mem)⟩
      rw [decide_eq_true_eq]
      exact not_or.2 (transfers e mem)
    exact ⟨_, doneWith_of (exec_groupClear tag _ s) ready took rfl rfl, lookup_erase_self _ _, fun n other =>
      lookup_erase_ne _ _ _ other⟩
  · have took : takeTransferSet f p = done { p with ret := { p.ret with
        transfers := Table.put p.ret.transfers f.position.toNat ⟨f.first, f.landing, f.second⟩ } } .nothing := by
      rw [takeTransferSet_eq, checked_of_passing]
      have places : ¬15 < f.position.toNat ∧ ¬7 < f.first.toNat ∧ ¬7 < f.second.toNat ∧ ¬127 < f.landing.toNat := by omega
      have isSky : Table.get .closed s.ret.landings f.landing.toNat = .sky := sky
      have one : served s.ret f.first f.landing = true := serve
      have two : served s.ret f.second f.landing = true := serve'
      simp only [transferChecks, List.forall_mem_cons]
      exact ⟨by simp [places], decide_eq_false apart, decide_eq_false (not_not.2 isSky), by
        change (!served s.ret _ _ || !served s.ret _ _) = false; rw [one, two]; rfl, nofun⟩
    exact ⟨_, doneWith_of (exec_transferSet tag _ s) ready took rfl rfl, lookup_put_self _ _ _, fun n other =>
      lookup_put_ne _ _ _ _ other⟩
  · exact ⟨_, doneWith_of (exec_transferClear tag _ s) ready (if_neg (Nat.not_le.2 place)) rfl rfl, lookup_erase_self _ _,
      fun k other => lookup_erase_ne _ _ _ other⟩

/-- Settles O25: an accepted PANEL_SET resets the drop and lets its link poll. -/
theorem panelSetResetsTheDrop : Obligations.PanelSetResetsTheDrop := by
  refine ⟨fun s m tag drop fields config ready place inOrder => ?_, fun s m tag f ready =>
    refusedInOrder_of (exec_panelSet tag _ s) ready (takePanelSet_eq f _)⟩
  let p := partOf s (listening m)
  have took : takePanelSet fields p = if p.dropInCall drop.toNat then refuse p .wrongState
      else done (p.configureDrop drop.toNat config) .nothing := by
    have ok : dropOk drop = true := (dropOk_iff drop).2 place
    rcases inOrder with ⟨code, landing, groups, kind, rfl, rfl, codes, low, some, serves, sky⟩ | ⟨rfl, rfl⟩
    · have all : p.allServe groups landing = true := by
        refine List.all_eq_true.2 fun g listed => ?_
        cases within : inSet groups g with
        | false => rfl
        | true => exact serves g listed within
      have low : landingOk landing = true := decide_eq_true low
      have skies : ¬(kind = .sky ∧ p.kindOf landing ≠ .sky) := fun h => h.2 (sky h.1)
      simp only [takePanelSet, codes, ok, low, all, decide_eq_false some, if_neg skies]
      rfl
    · simp only [takePanelSet, ok]
      rfl
  have named : p.dropInCall drop.toNat = true ↔ ∃ e ∈ m.calls, e.2.drop = drop.toNat := by
    rw [Part.dropInCall, List.any_eq_true]
    simp only [decide_eq_true_eq]
    rfl
  refine ⟨fun inCall => refusedWith_of (exec_panelSet tag _ s) ready (took.trans (if_pos (named.2 inCall))), fun free => ?_⟩
  have idle : ¬p.dropInCall drop.toNat = true := fun inCall => by
    obtain ⟨e, mem, same⟩ := named.1 inCall
    exact free e mem same
  obtain ⟨reset, ret, main, configs, self, others, waits, polls⟩ := configureDrop_spec p drop.toNat config
  have taken := command_listening ready fields takePanelSet 0x25 tag
  rw [took.trans (if_neg idle)] at taken
  refine ⟨reset, p.configureDrop drop.toNat config, (exec_panelSet tag _ s).trans taken, ret, main,
    (configs _).trans (if_pos rfl), fun n other => (configs n).trans (if_neg other), self, others, waits, polls,
    fun configured => ?_⟩
  have address : 16 * (drop.toNat / 16) + drop.toNat % 16 = drop.toNat := Nat.div_add_mod _ _
  refine sendPoll_outstanding _ (a := drop.toNat % 16) (Nat.mod_lt _ (by decide)) ?_
  rw [address]
  have assigned := lookup_assign s.ret.drops drop.toNat drop.toNat config
  rw [if_pos rfl] at assigned
  exact (congrArg Option.isSome assigned).trans configured

end Sys2Proof.Proofs
end

section
/-! SUPPORT. What no event of the main well touches: the service time and the retention-intact indication; and that every
command is taken fairly: one that is not done changes nothing and has no results. -/

namespace Sys2Proof.Laws

open Sys2Proof.Machine Sys2Proof.Safety

/-- The service time, which only an idle step advances, and the retention-intact indication, which only power events
change (1.6.2, R197). -/
def stamp (p : Part) : Nat × Bool := (p.main.now, p.ret.intact)

/-- A command's outcome keeps the stamp, and when it is not done it is a plain refusal (R186). -/
structure Fair (p : Part) (t : Taken) : Prop where
  stamp : stamp t.part = stamp p
  refused : t.status ≠ .done → t = refuse p t.status

section
variable {p : Part}

theorem fair_refuse (st : Status) : Fair p (refuse p st) := ⟨rfl, fun _ => rfl⟩

theorem fair_done {q : Part} (results : Results) (kept : stamp q = stamp p := by rfl) : Fair p (done q results) :=
  ⟨kept, fun other => absurd rfl other⟩

theorem fair_ite {c : Prop} [Decidable c] {t u : Taken} (yes : Fair p t) (no : Fair p u) : Fair p (if c then t else u) := by
  split
  · exact yes
  · exact no

end

/-! ## The stamp through the operations -/

section
variable (p : Part)

theorem stamp_foldl {α : Type} {f : Part → α → Part} (kept : ∀ q a, stamp (f q a) = stamp q) (l : List α) :
    stamp (l.foldl f p) = stamp p := by
  induction l generalizing p with
  | nil => rfl
  | cons a l ih => exact (ih _).trans (kept p a)

@[simp] theorem stamp_hunt (w : Wire) : stamp (p.hunt w) = stamp p := rfl
@[simp] theorem stamp_withCreds (t : Table Cred) : stamp (p.withCreds t) = stamp p := rfl
@[simp] theorem stamp_withOverlays (t : Table Overlay) : stamp (p.withOverlays t) = stamp p := rfl
@[simp] theorem stamp_withTickets (l : List Ticket) : stamp (p.withTickets l) = stamp p := rfl
@[simp] theorem stamp_withLatches (l : Set8) : stamp (p.withLatches l) = stamp p := rfl
@[simp] theorem stamp_withLineStatus (l : Set8) : stamp (p.withLineStatus l) = stamp p := rfl
@[simp] theorem stamp_withSendQueue (l : List DispatcherFrame) : stamp (p.withSendQueue l) = stamp p := rfl
@[simp] theorem stamp_withSweep (w : SweepWalker) : stamp (p.withSweep w) = stamp p := rfl
@[simp] theorem stamp_withPurge (w : PurgeWalker) : stamp (p.withPurge w) = stamp p := rfl
@[simp] theorem stamp_withLink (l : LinkState) (n : Nat) : stamp (p.withLink l n) = stamp p := rfl
@[simp] theorem stamp_setDrop (i : Nat) (d : DropLive) : stamp (p.setDrop i d) = stamp p := rfl
@[simp] theorem stamp_setLink (l : Nat) (k : PanelLink) : stamp (p.setLink l k) = stamp p := rfl
@[simp] theorem stamp_setLine (n : Nat) (l : LineLive) : stamp (p.setLine n l) = stamp p := rfl
@[simp] theorem stamp_setStatus (n : Nat) : stamp (p.setStatus n) = stamp p := rfl
@[simp] theorem stamp_putMode (g : Nat) (m : Mode) : stamp (p.putMode g m) = stamp p := rfl
@[simp] theorem stamp_putTenant (t : Byte) (r : Tenant) : stamp (p.putTenant t r) = stamp p := rfl
@[simp] theorem stamp_markLate (l : Nat) (late : Bool) : stamp (p.markLate l late) = stamp p := rfl
@[simp] theorem stamp_free (slot : Nat) : stamp (p.free slot) = stamp p := rfl
@[simp] theorem stamp_removeTickets (gone : Ticket → Bool) : stamp (p.removeTickets gone) = stamp p := rfl
@[simp] theorem stamp_raisePanelDown : stamp p.raisePanelDown = stamp p := rfl
@[simp] theorem stamp_raisePoolFull : stamp p.raisePoolFull = stamp p := rfl

@[simp] theorem stamp_modTenant (t : Byte) (f : Tenant → Tenant) : stamp (p.modTenant t f) = stamp p := by
  unfold Part.modTenant
  split <;> rfl

@[simp] theorem stamp_modCred (b : Badge) (f : Cred → Cred) : stamp (p.modCred b f) = stamp p := by
  unfold Part.modCred
  split <;> rfl

@[simp] theorem stamp_countUp (t : Byte) : stamp (p.countUp t) = stamp p := by
  unfold Part.countUp
  split
  · rfl
  · exact stamp_modTenant _ _ _

@[simp] theorem stamp_countDown (t : Byte) : stamp (p.countDown t) = stamp p := by
  unfold Part.countDown
  split
  · rfl
  · exact stamp_modTenant _ _ _

@[simp] theorem stamp_send (f : DispatcherFrame) : stamp (p.send f) = stamp p := by
  rw [send_spec]
  rfl

@[simp] theorem stamp_noticeAll : stamp p.noticeAll = stamp p := by
  refine stamp_foldl _ (fun q g => ?_) _
  split
  · exact stamp_send _ _
  · rfl

@[simp] theorem stamp_tell (i : Nat) (a : Answer) : stamp (p.tell i a) = stamp p := by
  unfold Part.tell
  dsimp only
  split <;> rfl

@[simp] theorem stamp_retire (b : Badge) : stamp (p.retire b) = stamp p := by
  unfold Part.retire
  split
  · exact stamp_countDown _ _
  · rfl

/-! ## Calls -/

@[simp] theorem stamp_chargeFor (c : Call) : stamp (p.chargeFor c) = stamp p := by
  unfold Part.chargeFor
  split
  · exact stamp_modCred _ _ _
  · rfl

@[simp] theorem stamp_releaseFor (c : Call) : stamp (p.releaseFor c) = stamp p := by
  unfold Part.releaseFor
  split
  · exact stamp_modCred _ _ _
  · rfl

@[simp] theorem stamp_assignTicket (b : Option Badge) (l : CallLink) : stamp (p.assignTicket b l) = stamp p := by
  unfold Part.assignTicket
  split
  · rfl
  · split
    · split <;> rfl
    · rfl
    · rfl

@[simp] theorem stamp_remember (c : Call) (car : Byte) : stamp (p.remember c car) = stamp p := by
  unfold Part.remember
  split
  · rfl
  · dsimp only
    split <;> rfl

@[simp] theorem stamp_assignCall (slot : Nat) (c : Call) (car : Byte) : stamp (p.assignCall slot c car) = stamp p := by
  simp [Part.assignCall]

@[simp] theorem stamp_unwind (slot : Nat) (c : Call) (why : NoService) : stamp (p.unwind slot c why) = stamp p := by
  simp [Part.unwind, Part.unwindTicket]

theorem stamp_assigned (n : Half) (car : Byte) : stamp (p.assigned n car) = stamp p := by
  unfold Part.assigned
  split
  · exact stamp_assignCall _ _ _ _
  · exact stamp_send _ _

theorem stamp_declined (n : Half) (code : Byte) : stamp (p.declined n code) = stamp p := by
  unfold Part.declined
  split
  · exact stamp_unwind _ _ _ _
  · rfl

theorem stamp_timeout (n : Half) : stamp (p.timeout n) = stamp p := by
  unfold Part.timeout
  split
  · split
    · exact stamp_unwind _ _ _ _
    · rfl
  · rfl

theorem stamp_qualifyLink (run : Nat) : stamp (p.qualifyLink run) = stamp p := by
  unfold Part.qualifyLink
  split
  · exact stamp_noticeAll _
  · rfl

theorem stamp_alive (groups : Set8) : stamp (p.alive groups) = stamp p := by
  unfold Part.alive
  dsimp only
  split
  · exact stamp_qualifyLink _ _
  · exact stamp_qualifyLink _ _
  · rfl

theorem stamp_dropCalls : stamp p.dropCalls = stamp p := stamp_foldl _ (fun q _ => stamp_unwind q _ _ _) _

theorem stamp_livenessEnd : stamp p.livenessEnd = stamp p := by
  unfold Part.livenessEnd
  split
  · rfl
  · split
    · unfold Part.linkDown
      dsimp only
      split
      · exact stamp_dropCalls p
      · rfl
    · rfl

/-! ## Decisions -/

theorem stamp_place (i : Nat) (cfg : DropConfig) (pl : Placement) : stamp (p.place i cfg pl) = stamp p := by
  have reserved : stamp (p.reserveFor pl) = stamp p := by
    unfold Part.reserveFor
    split
    · exact stamp_modCred _ _ _
    · rfl
  have ticketed : ∀ (q : Part) (l : CallLink), stamp (q.ticketFor pl l) = stamp q := fun q l => by
    unfold Part.ticketFor
    split
    · rfl
    · split <;> rfl
  have admitted : ∀ q : Part, stamp (q.admitAt i pl) = stamp q := fun q => by
    unfold Part.admitAt
    split <;> rfl
  unfold Part.place
  split
  · rfl
  · exact (stamp_send _ _).trans ((admitted _).trans ((ticketed _ _).trans reserved))

theorem stamp_decision : stamp p.decision = stamp p := by
  unfold Part.decision
  split
  · rfl
  next i _ =>
    unfold Part.decideAt
    split
    · rfl
    next r _ _ =>
      dsimp only
      generalize p.verdict (p.drop i) (p.dropConfig i) r = v
      have raised : stamp (if v.2 then (p.takeRequest i).raisePoolFull else p.takeRequest i) = stamp p := by
        split <;> rfl
      unfold Part.enact
      split
      · exact (stamp_tell _ _ _).trans raised
      · exact (stamp_place _ _ _ _).trans raised

/-! ## Modes and lines -/

@[simp] theorem stamp_latch (g : Nat) : stamp (p.latch g) = stamp p := by
  unfold Part.latch
  split <;> rfl

theorem stamp_cancelCall (e : Nat × Call) : stamp (p.cancelCall e) = stamp p :=
  (stamp_unwind _ _ _ _).trans (stamp_send _ _)

theorem stamp_cancelCalls (g : Nat) : stamp (p.cancelCalls g) = stamp p := stamp_foldl _ stamp_cancelCall _

theorem stamp_changeMode (g : Nat) (m : Mode) : stamp (p.changeMode g m) = stamp p := by
  have noticed : stamp ((p.putMode g m).notice g) = stamp p := stamp_send _ _
  unfold Part.changeMode
  dsimp only
  split
  · exact (stamp_cancelCalls _ g).trans noticed
  · exact noticed

@[simp] theorem stamp_refreshGroup (g : Nat) : stamp (p.refreshGroup g) = stamp p := by
  unfold Part.refreshGroup
  dsimp only
  split
  · exact stamp_latch _ _
  · exact (stamp_changeMode _ _ _).trans (stamp_latch _ _)

@[simp] theorem stamp_refreshAll : stamp p.refreshAll = stamp p := stamp_foldl _ stamp_refreshGroup _

theorem stamp_debounced (n : Nat) (raw : Bool) : stamp (p.debounced n raw) = stamp p := by
  unfold Part.debounced
  dsimp only
  split
  · exact stamp_refreshAll _
  · rfl

theorem stamp_rawChange (n : Nat) (high : Bool) : stamp (p.rawChange n high) = stamp p := by
  unfold Part.rawChange
  dsimp only
  split
  · rfl
  · split
    · exact stamp_debounced _ _ _
    · rfl

theorem stamp_endDebounce (n : Nat) : stamp (p.endDebounce n) = stamp p := by
  unfold Part.endDebounce
  split
  · rfl
  · split
    · exact stamp_debounced _ _ _
    · rfl

/-! ## Panel links and walkers -/

@[simp] theorem stamp_sendPoll (l : Nat) : stamp (p.sendPoll l) = stamp p := by
  unfold Part.sendPoll
  dsimp only
  split
  · rfl
  · split <;> rfl

theorem stamp_endPoll (l : Nat) : stamp (p.endPoll l) = stamp p := stamp_sendPoll _ _

theorem stamp_takeReply (i : Nat) (c : Poll) (r : Option Request) : stamp (p.takeReply i c r) = stamp p := by
  unfold Part.takeReply
  dsimp only
  split
  · rfl
  · rfl
  · split <;> rfl
  · rfl

theorem stamp_takeMiss (i : Nat) : stamp (p.takeMiss i) = stamp p := by
  unfold Part.takeMiss
  dsimp only
  split
  · rfl
  · rfl
  · rfl
  · split <;> rfl

theorem stamp_missPoll (l : Nat) : stamp (p.missPoll l) = stamp p := by
  unfold Part.missPoll
  split
  · rfl
  · exact (stamp_endPoll _ _).trans (stamp_takeMiss _ _)

theorem stamp_replyFrame (l a : Nat) (r : Option Request) : stamp (p.replyFrame l a r) = stamp p := by
  unfold Part.replyFrame
  split
  · rfl
  · split
    · exact (stamp_endPoll _ _).trans (stamp_takeReply _ _ _ _)
    · exact stamp_missPoll _ _

theorem stamp_panelFrame (l : Fin 6) {judge : Part → Part} (kept : ∀ q, stamp (judge q) = stamp q) :
    stamp (p.panelFrame l judge) = stamp p := by
  unfold Part.panelFrame
  dsimp only
  split
  · rfl
  · exact kept _

theorem stamp_windowEnd (l : Fin 6) : stamp (p.windowEnd l) = stamp p := by
  unfold Part.windowEnd
  split
  · rfl
  · split
    · exact stamp_missPoll _ _
    · rfl

theorem stamp_startWindow (l : Nat) : stamp (p.startWindow l) = stamp p := by
  unfold Part.startWindow
  split <;> rfl

theorem stamp_gapOn (w : Wire) : stamp (p.gapOn w) = stamp p := by
  cases w with
  | panel l => exact stamp_panelFrame p l fun q => stamp_missPoll q _
  | dispatcher => rfl
  | management => rfl

theorem stamp_endMemory (i : Nat) : stamp (p.endMemory i) = stamp p := by
  unfold Part.endMemory
  split
  · rfl
  · split <;> rfl

theorem stamp_endEscort (i : Nat) : stamp (p.endEscort i) = stamp p := by
  unfold Part.endEscort
  split
  · rfl
  · split <;> rfl

theorem stamp_purgeVisit : stamp p.purgeVisit = stamp p := by
  unfold Part.purgeVisit
  split
  · rfl
  · split
    · rfl
    · split
      · rfl
      · unfold Part.purgeRecord
        dsimp only
        split
        · exact stamp_retire _ _
        · rfl

theorem stamp_sweepVisit : stamp p.sweepVisit = stamp p := by
  unfold Part.sweepVisit
  split
  · rfl
  · split
    · rfl
    · unfold Part.sweepRecord
      dsimp only
      split
      · exact stamp_retire _ _
      · rfl

/-! ## The management link's own events -/

theorem stamp_takeUnknown (kind tag : Byte) : stamp (p.takeUnknown kind tag) = stamp p := by
  unfold Part.takeUnknown
  dsimp only
  split <;> rfl

theorem stamp_duringReply (tag : Byte) : stamp (p.duringReply tag) = stamp p := by
  unfold Part.duringReply
  dsimp only
  split <;> rfl

theorem stamp_takeCommand {α : Type} {act : α → Part → Taken} (fair : ∀ f q, Fair q (act f q)) (kind tag : Byte)
    (body : Body α) : stamp (p.takeCommand kind tag body act) = stamp p := by
  unfold Part.takeCommand
  dsimp only
  split
  · rfl
  · rfl
  · split
    · rfl
    · exact (fair _ _).stamp

end

/-! ## Every command is taken fairly -/

section
variable (p : Part)

theorem fair_onCred (b : Badge) {act : Cred → Taken} (fair : ∀ c, Fair p (act c)) : Fair p (onCred b p act) := by
  unfold onCred
  refine fair_ite (fair_refuse _) ?_
  split
  · exact fair_refuse _
  · exact fair _

theorem fair_onTenant (t : Byte) {act : Tenant → Taken} (fair : ∀ r, Fair p (act r)) : Fair p (onTenant t p act) := by
  unfold onTenant
  refine fair_ite (fair_refuse _) ?_
  split
  · exact fair_refuse _
  · exact fair _

theorem fair_onOverlay (slot : Byte) (ok : Bool) {act : Overlay → Taken} (fair : ∀ o, Fair p (act o)) :
    Fair p (onOverlay slot ok p act) := by
  unfold onOverlay
  refine fair_ite (fair_refuse _) ?_
  split
  · exact fair_refuse _
  · exact fair _

theorem fair_takeCredEnrol (i : CredImage) : Fair p (takeCredEnrol i p) :=
  fair_ite (fair_refuse _) (fair_ite (fair_refuse _) (fair_ite (fair_refuse _) (fair_ite (fair_refuse _)
    (fair_ite (fair_refuse _) (fair_done _ (by exact stamp_countUp _ _))))))

theorem stamp_amend (i : CredImage) (c : Cred) : stamp (p.amend i c) = stamp p := by
  have moved : stamp ((p.withCreds (Table.put p.ret.creds i.badge.toNat (amended i c))).moveTenant c.tenant i.tenant) =
      stamp p := by
    unfold Part.moveTenant
    split
    · rfl
    · exact (stamp_countUp _ _).trans (stamp_countDown _ _)
  unfold Part.amend
  dsimp only
  split <;> exact moved

theorem fair_takeCredAmend (i : CredImage) : Fair p (takeCredAmend i p) := by
  unfold takeCredAmend
  refine fair_ite (fair_refuse _) ?_
  split
  · exact fair_refuse _
  · exact fair_ite (fair_refuse _) (fair_ite (fair_refuse _) (fair_ite (fair_refuse _) (fair_ite (fair_refuse _)
      (fair_done _ (by exact stamp_amend p i _)))))

theorem fair_takeCredSuspend (b : Badge) : Fair p (takeCredSuspend b p) := fair_onCred p b fun _ => fair_done _

theorem fair_takeCredReinstate (b : Badge) : Fair p (takeCredReinstate b p) :=
  fair_onCred p b fun _ => fair_ite (fair_done _) (fair_refuse _)

theorem fair_takeCredRetire (b : Badge) : Fair p (takeCredRetire b p) :=
  fair_onCred p b fun _ => fair_done _ (by exact stamp_retire p b)

theorem fair_takeQuotaReload (f : QuotaFields) : Fair p (takeQuotaReload f p) :=
  fair_onCred p f.badge fun _ => fair_ite (fair_refuse _) (fair_ite (fair_refuse _) (fair_done _))

theorem fair_takeCredRead (b : Badge) : Fair p (takeCredRead b p) := fair_onCred p b fun _ => fair_done _

theorem fair_takeCredNext (b : Badge) : Fair p (takeCredNext b p) := by
  unfold takeCredNext
  split
  · exact fair_done _
  · exact fair_refuse _

theorem fair_takeTenantCreate (f : TenantFields) : Fair p (takeTenantCreate f p) :=
  fair_ite (fair_refuse _) (fair_ite (fair_refuse _) (fair_ite (fair_refuse _) (fair_done _)))

theorem fair_takeTenantFloors (f : TenantFields) : Fair p (takeTenantFloors f p) :=
  fair_onTenant p f.tenant fun _ =>
    fair_ite (fair_refuse _) (fair_ite (fair_refuse _) (fair_ite (fair_refuse _) (fair_done _)))

theorem fair_takeTenantSuspend (t : Byte) : Fair p (takeTenantSuspend t p) :=
  fair_onTenant p t fun _ => fair_ite (fair_refuse _) (fair_done _)

theorem fair_takeTenantReinstate (t : Byte) : Fair p (takeTenantReinstate t p) :=
  fair_onTenant p t fun _ => fair_ite (fair_done _) (fair_refuse _)

theorem fair_takeTenantPurge (t : Byte) : Fair p (takeTenantPurge t p) :=
  fair_onTenant p t fun _ =>
    fair_ite (fair_refuse _) (fair_ite (fair_refuse _) (fair_ite (fair_refuse _) (fair_done _)))

theorem fair_takeTenantRead (t : Byte) : Fair p (takeTenantRead t p) := fair_onTenant p t fun _ => fair_done _

theorem fair_takeOverlayOpen (f : OverlayOpenFields) : Fair p (takeOverlayOpen f p) := by
  unfold takeOverlayOpen
  refine fair_ite (fair_refuse _) (fair_ite (fair_refuse _) ?_)
  split
  · exact fair_refuse _
  · exact fair_ite (fair_refuse _) (fair_ite (fair_refuse _) (fair_done _))

theorem fair_takeOverlayEdit (f : OverlayEditFields) : Fair p (takeOverlayEdit f p) :=
  fair_onOverlay p _ _ fun _ => fair_done _

theorem fair_takeOverlayApply (f : OverlayApplyFields) : Fair p (takeOverlayApply f p) :=
  fair_onOverlay p _ _ fun _ => fair_done _

theorem fair_takeOverlayCommit (slot : Byte) : Fair p (takeOverlayCommit slot p) :=
  fair_onOverlay p _ _ fun _ => fair_done _ (by exact stamp_modTenant _ _ _)

theorem fair_takeOverlayDiscard (slot : Byte) : Fair p (takeOverlayDiscard slot p) :=
  fair_onOverlay p _ _ fun _ => fair_done _

theorem fair_takeOverlayRead (slot : Byte) : Fair p (takeOverlayRead slot p) :=
  fair_ite (fair_refuse _) (fair_done _)

theorem fair_takeCalSet (f : CalFields) : Fair p (takeCalSet f p) := fair_ite (fair_refuse _) (fair_done _)

theorem fair_takeHolidaySet (days : List Half) : Fair p (takeHolidaySet days p) :=
  fair_ite (fair_refuse _) (fair_done _)

theorem fair_takeSchedSet (f : SchedFields) : Fair p (takeSchedSet f p) := fair_ite (fair_refuse _) (fair_done _)

theorem fair_takeSchedRead (n : Byte) : Fair p (takeSchedRead n p) := fair_ite (fair_refuse _) (fair_done _)

theorem fair_takeParamSet (f : ParamFields) : Fair p (takeParamSet f p) := by
  unfold takeParamSet
  split
  · exact fair_refuse _
  · exact fair_ite (fair_done _) (fair_refuse _)

theorem fair_takeLandingSet (f : LandingFields) : Fair p (takeLandingSet f p) := by
  unfold takeLandingSet
  refine fair_ite (fair_refuse _) ?_
  split
  · exact fair_refuse _
  · exact fair_ite (fair_refuse _) (fair_done _)

theorem fair_takeGroupSet (f : GroupFields) : Fair p (takeGroupSet f p) := by
  refine fair_ite (fair_refuse _) (fair_ite (fair_refuse _) (fair_ite (fair_refuse _) (fair_ite (fair_refuse _)
    (fair_done _ ?_))))
  split
  · exact stamp_send _ _
  · rfl

theorem fair_takeGroupClear (g : Byte) : Fair p (takeGroupClear g p) :=
  fair_ite (fair_refuse _) (fair_ite (fair_refuse _) (fair_done _))

theorem fair_takeGroupRead (g : Byte) : Fair p (takeGroupRead g p) := fair_ite (fair_refuse _) (fair_done _)

theorem fair_takeTransferSet (f : TransferFields) : Fair p (takeTransferSet f p) :=
  fair_ite (fair_refuse _) (fair_ite (fair_refuse _) (fair_ite (fair_refuse _) (fair_ite (fair_refuse _) (fair_done _))))

theorem fair_takeTransferClear (n : Byte) : Fair p (takeTransferClear n p) := fair_ite (fair_refuse _) (fair_done _)

theorem stamp_configureDrop (i : Nat) (c : Option DropConfig) : stamp (p.configureDrop i c) = stamp p := stamp_sendPoll _ _

theorem fair_takePanelSet (f : PanelFields) : Fair p (takePanelSet f p) := by
  unfold takePanelSet
  split
  · split
    · exact fair_refuse _
    · exact fair_ite (fair_refuse _) (fair_ite (fair_refuse _) (fair_ite (fair_refuse _) (fair_ite (fair_refuse _)
        (fair_done _ (by exact stamp_configureDrop p _ _)))))
  · exact fair_ite (fair_refuse _) (fair_ite (fair_refuse _) (fair_done _ (by exact stamp_configureDrop p _ _)))

theorem fair_takePanelRead (d : Byte) : Fair p (takePanelRead d p) := fair_ite (fair_refuse _) (fair_done _)

theorem fair_takeTicketRead (c : TicketQuery) : Fair p (takeTicketRead c p) := by
  unfold takeTicketRead
  split
  · exact fair_ite (fair_refuse _) (fair_ite (fair_refuse _) (fair_done _))
  · exact fair_ite (fair_refuse _) (fair_ite (fair_refuse _) (fair_done _))

theorem fair_takeDropRead (d : Byte) : Fair p (takeDropRead d p) := fair_ite (fair_refuse _) (fair_done _)

theorem fair_takeAlarmSet (f : AlarmFields) : Fair p (takeAlarmSet f p) := by
  unfold takeAlarmSet
  split
  · exact fair_refuse _
  · refine fair_done _ ((stamp_refreshAll _).trans ?_)
    split <;> rfl

theorem fair_takeAlarmAck (set : Set8) : Fair p (takeAlarmAck set p) := fair_done _ (by exact stamp_refreshAll _)

theorem fair_takeModeDemand (f : DemandFields) : Fair p (takeModeDemand f p) := by
  unfold takeModeDemand
  refine fair_ite (fair_refuse _) ?_
  split
  · exact fair_done _ (by exact stamp_refreshGroup _ _)
  · exact fair_refuse _

theorem fair_takeGroupResume (g : Byte) : Fair p (takeGroupResume g p) := by
  refine fair_ite (fair_refuse _) (fair_ite (fair_refuse _) (fair_done _ ?_))
  unfold Part.resume
  split
  · exact stamp_refreshGroup _ _
  · rfl

theorem fair_takeModeRead (g : Byte) : Fair p (takeModeRead g p) := fair_ite (fair_refuse _) (fair_done _)

theorem fair_takeCallRead (c : CallQuery) : Fair p (takeCallRead c p) := by
  unfold takeCallRead
  split
  · refine fair_ite (fair_refuse _) ?_
    split
    · exact fair_done _
    · exact fair_done _
  · refine fair_ite (fair_refuse _) ?_
    split
    · exact fair_refuse _
    · exact fair_done _

theorem fair_readOnly (view : Part → Results) (u : Unit) : Fair p (readOnly view u p) := fair_done _

end

end Sys2Proof.Laws
end

section
/-! SUPPORT. What a command of the queue can be: a management command taken fairly, an event of the main well that keeps
the stamp, the end of a reply, or an event of the wells; and the statements on the queue, the wells and the management
link (1.6.2, chapters 10 and 11). -/

namespace Sys2Proof.Laws

open Sys2Proof.Machine Sys2Proof.Safety

/-- A command of the management link: it is taken as such, and fairly. -/
def Managed (c : Instr) (kind tag : Byte) (bad : Bool) : Prop :=
  ∃ (α : Type) (body : Body α) (act : α → Part → Taken), (∀ s, exec c s = command kind tag body act s) ∧
    isMalformed body = bad ∧ ∀ f p, Fair p (act f p)

/-- An event of the main well: lost while that does not run, and keeping the stamp while it does. -/
def MainEvent (c : Instr) : Prop :=
  ∃ act : Part → Part, (∀ s, exec c s = whileRunning s act) ∧ ∀ p, stamp (act p) = stamp p

section
variable {c : Instr}

theorem managed_of {k t kind tag : Byte} {bad : Bool} {α : Type} {body : Body α} {act : α → Part → Taken}
    (arm : ∀ s, exec c s = command k t body act s) (fair : ∀ f p, Fair p (act f p))
    (headed : some (k, t, isMalformed body) = some (kind, tag, bad)) : Managed c kind tag bad := by
  cases headed
  exact ⟨α, body, act, arm, rfl, fair⟩

theorem Managed.mainEvent {kind tag : Byte} {bad : Bool} (h : Managed c kind tag bad) : MainEvent c := by
  obtain ⟨α, body, act, arm, -, fair⟩ := h
  exact ⟨fun p => p.takeCommand kind tag body act, arm, fun p => stamp_takeCommand p fair kind tag body⟩

theorem managed_of_heading {kind tag : Byte} {bad : Bool} (headed : heading c = some (kind, tag, bad)) :
    Managed c kind tag bad := by
  cases c with
  | credEnrol tag body => exact managed_of (exec_credEnrol tag body) (fun f p => fair_takeCredEnrol p f) headed
  | credAmend tag body => exact managed_of (exec_credAmend tag body) (fun f p => fair_takeCredAmend p f) headed
  | credSuspend tag body => exact managed_of (exec_credSuspend tag body) (fun f p => fair_takeCredSuspend p f) headed
  | credReinstate tag body => exact managed_of (exec_credReinstate tag body) (fun f p => fair_takeCredReinstate p f) headed
  | credRetire tag body => exact managed_of (exec_credRetire tag body) (fun f p => fair_takeCredRetire p f) headed
  | quotaReload tag body => exact managed_of (exec_quotaReload tag body) (fun f p => fair_takeQuotaReload p f) headed
  | credRead tag body => exact managed_of (exec_credRead tag body) (fun f p => fair_takeCredRead p f) headed
  | credNext tag body => exact managed_of (exec_credNext tag body) (fun f p => fair_takeCredNext p f) headed
  | tenantCreate tag body => exact managed_of (exec_tenantCreate tag body) (fun f p => fair_takeTenantCreate p f) headed
  | tenantFloors tag body => exact managed_of (exec_tenantFloors tag body) (fun f p => fair_takeTenantFloors p f) headed
  | tenantSuspend tag body => exact managed_of (exec_tenantSuspend tag body) (fun f p => fair_takeTenantSuspend p f) headed
  | tenantReinstate tag body => exact managed_of (exec_tenantReinstate tag body) (fun f p => fair_takeTenantReinstate p f) headed
  | tenantPurge tag body => exact managed_of (exec_tenantPurge tag body) (fun f p => fair_takeTenantPurge p f) headed
  | tenantRead tag body => exact managed_of (exec_tenantRead tag body) (fun f p => fair_takeTenantRead p f) headed
  | overlayOpen tag body => exact managed_of (exec_overlayOpen tag body) (fun f p => fair_takeOverlayOpen p f) headed
  | overlayEdit tag body => exact managed_of (exec_overlayEdit tag body) (fun f p => fair_takeOverlayEdit p f) headed
  | overlayApply tag body => exact managed_of (exec_overlayApply tag body) (fun f p => fair_takeOverlayApply p f) headed
  | overlayCommit tag body => exact managed_of (exec_overlayCommit tag body) (fun f p => fair_takeOverlayCommit p f) headed
  | overlayDiscard tag body => exact managed_of (exec_overlayDiscard tag body) (fun f p => fair_takeOverlayDiscard p f) headed
  | overlayRead tag body => exact managed_of (exec_overlayRead tag body) (fun f p => fair_takeOverlayRead p f) headed
  | calSet tag body => exact managed_of (exec_calSet tag body) (fun f p => fair_takeCalSet p f) headed
  | calRead tag body => exact managed_of (exec_calRead tag body) (fun f p => fair_readOnly p _ f) headed
  | holidaySet tag body => exact managed_of (exec_holidaySet tag body) (fun f p => fair_takeHolidaySet p f) headed
  | holidayRead tag body => exact managed_of (exec_holidayRead tag body) (fun f p => fair_readOnly p _ f) headed
  | schedSet tag body => exact managed_of (exec_schedSet tag body) (fun f p => fair_takeSchedSet p f) headed
  | schedRead tag body => exact managed_of (exec_schedRead tag body) (fun f p => fair_takeSchedRead p f) headed
  | paramSet tag body => exact managed_of (exec_paramSet tag body) (fun f p => fair_takeParamSet p f) headed
  | paramRead tag body => exact managed_of (exec_paramRead tag body) (fun f p => fair_readOnly p _ f) headed
  | landingSet tag body => exact managed_of (exec_landingSet tag body) (fun f p => fair_takeLandingSet p f) headed
  | landingRead tag body => exact managed_of (exec_landingRead tag body) (fun f p => fair_readOnly p _ f) headed
  | groupSet tag body => exact managed_of (exec_groupSet tag body) (fun f p => fair_takeGroupSet p f) headed
  | groupClear tag body => exact managed_of (exec_groupClear tag body) (fun f p => fair_takeGroupClear p f) headed
  | groupRead tag body => exact managed_of (exec_groupRead tag body) (fun f p => fair_takeGroupRead p f) headed
  | transferSet tag body => exact managed_of (exec_transferSet tag body) (fun f p => fair_takeTransferSet p f) headed
  | transferClear tag body => exact managed_of (exec_transferClear tag body) (fun f p => fair_takeTransferClear p f) headed
  | transferRead tag body => exact managed_of (exec_transferRead tag body) (fun f p => fair_readOnly p _ f) headed
  | panelSet tag body => exact managed_of (exec_panelSet tag body) (fun f p => fair_takePanelSet p f) headed
  | panelRead tag body => exact managed_of (exec_panelRead tag body) (fun f p => fair_takePanelRead p f) headed
  | ticketRead tag body => exact managed_of (exec_ticketRead tag body) (fun f p => fair_takeTicketRead p f) headed
  | dropRead tag body => exact managed_of (exec_dropRead tag body) (fun f p => fair_takeDropRead p f) headed
  | alarmSet tag body => exact managed_of (exec_alarmSet tag body) (fun f p => fair_takeAlarmSet p f) headed
  | alarmAck tag body => exact managed_of (exec_alarmAck tag body) (fun f p => fair_takeAlarmAck p f) headed
  | alarmRead tag body => exact managed_of (exec_alarmRead tag body) (fun f p => fair_readOnly p _ f) headed
  | modeDemand tag body => exact managed_of (exec_modeDemand tag body) (fun f p => fair_takeModeDemand p f) headed
  | groupResume tag body => exact managed_of (exec_groupResume tag body) (fun f p => fair_takeGroupResume p f) headed
  | modeRead tag body => exact managed_of (exec_modeRead tag body) (fun f p => fair_takeModeRead p f) headed
  | attnAck tag body => exact managed_of (exec_attnAck tag body) (fun _ _ => fair_done _) headed
  | attnEnable tag body => exact managed_of (exec_attnEnable tag body) (fun _ _ => fair_done _) headed
  | attnRead tag body => exact managed_of (exec_attnRead tag body) (fun f p => fair_readOnly p _ f) headed
  | statusRead tag body => exact managed_of (exec_statusRead tag body) (fun f p => fair_readOnly p _ f) headed
  | callRead tag body => exact managed_of (exec_callRead tag body) (fun f p => fair_takeCallRead p f) headed
  | restart tag body => exact managed_of (exec_restart tag body) (fun _ _ => fair_done _) headed
  | _ => exact absurd headed.symm (Option.some_ne_none _)

theorem mainEvent_unknownCommand (kind tag : Byte) : MainEvent (.unknownCommand kind tag) := by
  cases names : namesCommand kind with
  | true =>
    refine ⟨id, fun s => ?_, fun _ => rfl⟩
    rw [exec_unknownCommand, execUnknownCommand, if_pos names]
    unfold whileRunning
    split
    next m running => exact congrArg Host.Outcome.next (withPart_self running).symm
    · rfl
    · rfl
  | false =>
    refine ⟨fun p => p.takeUnknown kind tag, fun s => ?_, fun p => stamp_takeUnknown p kind tag⟩
    rw [exec_unknownCommand, execUnknownCommand, if_neg (Bool.eq_false_iff.1 names)]

/-- Every command is an event of the main well, but for the end of a reply and the events taken while it is off. -/
theorem mainEvent_of (on : takenWhileOff c = false) (other : c ≠ .replySent) : MainEvent c := by
  cases headed : heading c with
  | some h => exact (managed_of_heading headed).mainEvent
  | none =>
    cases c with
    | unknownCommand kind tag => exact mainEvent_unknownCommand kind tag
    | commandDuringReply tag => exact ⟨_, exec_commandDuringReply tag, fun p => stamp_duringReply p tag⟩
    | managementFrameDiscarded => exact ⟨_, exec_managementFrameDiscarded, fun _ => rfl⟩
    | replySent => exact absurd rfl other
    | decision => exact ⟨_, exec_decision, stamp_decision⟩
    | callAssigned number car =>
      refine ⟨_, exec_callAssigned number car, fun p => ?_⟩
      dsimp only
      split
      · exact stamp_assigned _ _ _
      · rfl
    | callDeclined number code =>
      refine ⟨_, exec_callDeclined number code, fun p => ?_⟩
      dsimp only
      split
      · exact stamp_declined _ _ _
      · rfl
    | callTimerExpiry number => exact ⟨_, exec_callTimerExpiry number, fun p => stamp_timeout p number⟩
    | dispatchAlive groups => exact ⟨_, exec_dispatchAlive groups, fun p => stamp_alive _ groups⟩
    | livenessTimerExpiry => exact ⟨_, exec_livenessTimerExpiry, stamp_livenessEnd⟩
    | dispatcherFrameSent => exact ⟨_, exec_dispatcherFrameSent, fun _ => rfl⟩
    | dispatcherFrameDiscarded => exact ⟨_, exec_dispatcherFrameDiscarded, fun _ => rfl⟩
    | ticketExpiry badge => exact ⟨_, exec_ticketExpiry badge, fun _ => rfl⟩
    | validReply link address request =>
      exact ⟨_, exec_validReply link address request, fun p => stamp_panelFrame p link fun q => stamp_replyFrame q _ _ _⟩
    | invalidReply link => exact ⟨_, exec_invalidReply link, fun p => stamp_panelFrame p link fun q => stamp_missPoll q _⟩
    | replyWindowEnd link => exact ⟨_, exec_replyWindowEnd link, fun p => stamp_windowEnd p link⟩
    | unsolicitedPanelFrame link => exact ⟨_, exec_unsolicitedPanelFrame link, fun p => stamp_panelFrame p link fun _ => rfl⟩
    | frameGapTimeout wire =>
      refine ⟨_, exec_frameGapTimeout wire, fun p => ?_⟩
      split
      · exact stamp_gapOn p wire
      · rfl
    | repeatMemoryEnd drop => exact ⟨_, exec_repeatMemoryEnd drop, fun p => stamp_endMemory p _⟩
    | escortWindowEnd drop => exact ⟨_, exec_escortWindowEnd drop, fun p => stamp_endEscort p _⟩
    | rawLevelChange line high => exact ⟨_, exec_rawLevelChange line high, fun p => stamp_rawChange p _ high⟩
    | debounceEnd line => exact ⟨_, exec_debounceEnd line, fun p => stamp_endDebounce p _⟩
    | purgeVisit => exact ⟨_, exec_purgeVisit, stamp_purgeVisit⟩
    | sweepVisit => exact ⟨_, exec_sweepVisit, stamp_sweepVisit⟩
    | pollSent link => exact ⟨_, exec_pollSent link, fun p => stamp_startWindow p _⟩
    | frameStart wire => exact ⟨_, exec_frameStart wire, fun _ => rfl⟩
    | secondAdvance => cases on
    | minuteAdvance => cases on
    | dayRollover => cases on
    | startConditionBegins => cases on
    | startConditionCeases mainOk resetReleased => cases on
    | startSequence levels => cases on
    | retentionPowerGain => cases on
    | retentionSupplyLoss => cases on
    | _ => exact absurd headed (Option.some_ne_none _)

end

/-! ## What every command answers -/

section
variable {s : State}

theorem replySent_next (s : State) : ∃ t, exec .replySent s = .next t ∧ t.pending = s.pending := by
  rw [exec_replySent]
  unfold execReplySent
  split
  · exact ⟨_, rfl, rfl⟩
  · exact ⟨_, rfl, rfl⟩
  · split
    · exact ⟨_, rfl, rfl⟩
    · exact ⟨_, rfl, rfl⟩
    · split
      · refine ⟨_, rfl, ?_⟩
        unfold State.restartStop
        dsimp only
        split <;> rfl
      · exact ⟨_, rfl, rfl⟩

theorem wellEvent_next {c : Instr} (off : takenWhileOff c = true) (s : State) :
    ∃ t, exec c s = .next t ∧ t.pending = s.pending := by
  cases c with
  | secondAdvance => exact ⟨_, rfl, by split <;> rfl⟩
  | minuteAdvance => exact ⟨_, rfl, by split <;> rfl⟩
  | dayRollover => exact ⟨_, rfl, by split <;> rfl⟩
  | startConditionBegins => exact ⟨_, rfl, rfl⟩
  | startConditionCeases mainOk resetReleased =>
    refine ⟨_, rfl, ?_⟩
    split
    · rfl
    · unfold State.ceases
      split <;> rfl
  | startSequence levels =>
    rw [exec_startSequence]
    unfold execStartSequence
    split
    · exact ⟨s, rfl, rfl⟩
    · generalize startSequence _ levels = q
      exact ⟨_, rfl, rfl⟩
    · exact ⟨s, rfl, rfl⟩
  | retentionPowerGain => exact ⟨_, rfl, rfl⟩
  | retentionSupplyLoss =>
    refine ⟨_, rfl, ?_⟩
    unfold State.supplyLost
    split <;> rfl
  | _ => exact absurd off Bool.false_ne_true

theorem exec_next (c : Instr) (s : State) : ∃ t, exec c s = .next t ∧ t.pending = s.pending := by
  by_cases off : takenWhileOff c = true
  · exact wellEvent_next off s
  · by_cases sent : c = .replySent
    · rw [sent]
      exact replySent_next s
    · obtain ⟨act, arm, -⟩ := mainEvent_of (Bool.eq_false_iff.2 off) sent
      rw [arm s]
      obtain ⟨t, next, pending, -⟩ := whileRunning_next s act
      exact ⟨t, next, pending⟩

/-! ## What the part does of its own account (1.6.2; log 3) -/

theorem due_eq (now : Nat) (e : Option Nat) : due now e = e.any fun k => decide (k ≤ now) := by cases e <;> rfl

theorem nextOwn_eq (p : Part) : p.nextOwn = (dueNow p.main).head?.or p.dueDecision := by
  have liveness : p.dueLiveness =
      (if (p.main.liveness.any fun e => decide (e ≤ p.main.now)) = true then [Instr.livenessTimerExpiry] else []).head? := by
    unfold Part.dueLiveness
    rw [due_eq]
    split <;> rfl
  unfold Part.nextOwn dueNow
  simp only [List.head?_append, List.head?_map, List.head?_filter, ← liveness, Part.dueCall, Part.dueTicket, Part.dueMemory,
    Part.dueEscort, Part.dueLine, due_eq, Option.any_map, Option.any_some]

theorem mem_scanFrom (position : Nat) {i : Nat} (small : i < 96) : i ∈ scanFrom position := by
  refine List.mem_map.2 ⟨(i + 96 - (position + 1) % 96) % 96, List.mem_range.2 (Nat.mod_lt _ (by decide)), ?_⟩
  simp only [Config.drops]
  omega

theorem chooseDrop_isSome {p : Part} : p.chooseDrop.isSome = true ↔ ∃ i, eligibleDrop p i := by
  constructor
  · intro some
    obtain ⟨i, chosen⟩ := Option.isSome_iff_exists.1 some
    obtain ⟨small, eligible⟩ := eligible_of_chosen chosen
    exact ⟨i, small, eligible_iff.1 eligible⟩
  · rintro ⟨i, small, eligible⟩
    exact List.find?_isSome.2 ⟨i, mem_scanFrom _ small, eligible_iff.2 eligible⟩

theorem step_own (idle : s.pending = []) {c : Instr} (own : s.nextOwn = some c) : step s = exec c s := by
  simp only [step, idle, own]

theorem step_elapses (idle : s.pending = []) (own : s.nextOwn = none) : step s = .next s.elapse := by
  simp only [step, idle, own]

theorem nextOwn_running {m : Main} (running : s.well = .running m) : s.nextOwn = (partOf s m).nextOwn := by
  unfold State.nextOwn
  rw [running]

theorem elapse_running {m : Main} (running : s.well = .running m) :
    s.elapse = { s with well := .running { m with now := m.now + 1 } } := by
  unfold State.elapse
  rw [running]

theorem stopped_cases (stopped : ∀ m, s.well ≠ .running m) : s.well = .qualifying ∨ s.well = .off := by
  cases well : s.well with
  | running m => exact absurd well (stopped m)
  | qualifying => exact .inl rfl
  | off => exact .inr rfl

theorem whileRunning_lost {act : Part → Part} (lost : s.well = .qualifying ∨ s.well = .off) :
    whileRunning s act = .next s := by
  rcases lost with qualifying | off
  · exact whileRunning_qualifying qualifying act
  · exact whileRunning_off off act

theorem replySent_lost (lost : s.well = .qualifying ∨ s.well = .off) : exec .replySent s = .next s := by
  rw [exec_replySent]
  unfold execReplySent
  rcases lost with qualifying | off
  · rw [qualifying]
  · rw [off]

theorem attentionLine_lost (lost : s.well = .qualifying ∨ s.well = .off) : State.attentionLine s = false := by
  unfold State.attentionLine
  rcases lost with qualifying | off
  · rw [qualifying]
  · rw [off]

theorem nextReply_eq (p : Part) : p.nextReply = ⟨p.ret, { p.main with
    mgmt := (match p.main.overrun with
      | none => .ready
      | some o => .replying ⟨0, o.first, .overrun, .overrun o.last (byte o.count)⟩)
    overrun := none }⟩ := by
  unfold Part.nextReply
  cases found : p.main.overrun with
  | none => simp [Part.withMgmt, found]
  | some o => rfl

theorem frameGapTimeout_running {m : Main} (running : s.well = .running m) (wire : Wire) :
    exec (.frameGapTimeout wire) s = .next (s.withPart
      (if inSet m.receiving (wireIndex wire) then (partOf s m).gapOn wire else partOf s m)) := by
  rw [exec_frameGapTimeout, whileRunning_running running]
  rfl

/-- The calendar's advance changes the calendar and the sweep alone. -/
theorem calendarEvent_spec {c : Instr} (off : takenWhileOff c = true) (still : movesWell c = false) (s : State) :
    ∃ r, exec c s = .next { s with ret := r } ∧ r.intact = s.ret.intact := by
  have rolled : s.ret.rollDay.intact = s.ret.intact := by
    unfold Retention.rollDay
    split <;> rfl
  have minuted : s.ret.rollMinute.intact = s.ret.intact := by
    unfold Retention.rollMinute
    split
    · rfl
    · exact rolled
  have ticked : s.ret.tick.intact = s.ret.intact := by
    unfold Retention.tick
    split
    · rfl
    · exact minuted
  have either : ∀ (b : Bool) (r : Retention), r.intact = s.ret.intact →
      ∃ r', Host.Outcome.next (if b then { s with ret := r } else s) =
        (.next { s with ret := r' } : Host.Outcome State Fault Refusal) ∧ r'.intact = s.ret.intact := by
    intro b r kept
    cases b with
    | true => exact ⟨r, rfl, kept⟩
    | false => exact ⟨s.ret, rfl, rfl⟩
  cases c with
  | secondAdvance => exact either _ _ ticked
  | minuteAdvance => exact either _ _ minuted
  | dayRollover => exact either _ _ rolled
  | startConditionBegins => cases still
  | startConditionCeases mainOk resetReleased => cases still
  | startSequence levels => cases still
  | retentionPowerGain => cases still
  | retentionSupplyLoss => cases still
  | _ => exact absurd off Bool.false_ne_true

end

end Sys2Proof.Laws

namespace Sys2Proof.Proofs

open Sys2Proof.Machine Sys2Proof.Safety Sys2Proof.Laws

/-- Settles O1: by the definition of a step. -/
theorem stepTakesFrontCommand : Obligations.StepTakesFrontCommand := by
  intro c s rest front
  unfold step
  rw [front]

/-- Settles O2: the events due come in the order of the timers, and a scan meets every drop. -/
theorem everyCommandIsTaken : Obligations.EveryCommandIsTaken := by
  refine ⟨exec_next, fun s idle => ⟨fun stopped => ?_, fun m running => ?_⟩⟩
  · have own : s.nextOwn = none := by
      unfold State.nextOwn
      rcases stopped_cases stopped with qualifying | off
      · rw [qualifying]
      · rw [off]
    rw [step_elapses idle own]
    unfold State.elapse
    rcases stopped_cases stopped with qualifying | off
    · rw [qualifying]
    · rw [off]
  · have own := (nextOwn_running running).trans (nextOwn_eq (partOf s m))
    refine ⟨fun c first => step_own idle ?_, fun nothing some => step_own idle ?_, fun nothing bare => ?_⟩
    · rw [own, show (dueNow (partOf s m).main).head? = some c from first]
      rfl
    · obtain ⟨i, chosen⟩ := Option.isSome_iff_exists.1 (chooseDrop_isSome.2 some)
      rw [own, show dueNow (partOf s m).main = [] from nothing, Part.dueDecision, chosen]
      rfl
    · have unchosen : (partOf s m).chooseDrop = none := by
        rw [← Option.not_isSome_iff_eq_none, chooseDrop_isSome]
        exact not_exists.2 bare
      rw [step_elapses idle (own.trans (by
        rw [show dueNow (partOf s m).main = [] from nothing, Part.dueDecision, unchosen]; rfl))]
      exact congrArg Host.Outcome.next (elapse_running running)

/-- Settles O3: every other command is an event of the main well, which keeps the stamp, or the calendar's advance. -/
theorem onlyPowerEventsMoveTheWells : Obligations.OnlyPowerEventsMoveTheWells := by
  intro c s t still next
  by_cases off : takenWhileOff c = true
  · obtain ⟨r, answer, intact⟩ := calendarEvent_spec off still s
    rw [answer] at next
    cases next
    exact ⟨rfl, rfl, rfl, intact, id, id, fun m running => ⟨m, running, rfl⟩⟩
  · have other : c ≠ .replySent := fun same => by rw [same] at still; cases still
    obtain ⟨act, arm, kept⟩ := mainEvent_of (Bool.eq_false_iff.2 off) other
    rw [arm s] at next
    cases well : s.well with
    | running m =>
      rw [whileRunning_running well] at next
      cases next
      obtain ⟨now, intact⟩ := Prod.mk.inj (kept ⟨s.ret, m⟩)
      refine ⟨rfl, rfl, rfl, intact, (by cases ·), (by cases ·), fun m' same => ⟨_, rfl, ?_⟩⟩
      cases same
      exact now
    | qualifying =>
      rw [whileRunning_qualifying well] at next
      cases next
      exact ⟨rfl, rfl, rfl, rfl, (by cases ·), fun _ => well, fun _ running => by cases running⟩
    | off =>
      rw [whileRunning_off well] at next
      cases next
      exact ⟨rfl, rfl, rfl, rfl, fun _ => well, (by cases ·), fun _ running => by cases running⟩

/-- Settles O4: an event of the main well does nothing while that does not run. -/
theorem eventsAreLostWhileTheMainWellIsOff : Obligations.EventsAreLostWhileTheMainWellIsOff := by
  intro c s lost
  refine ⟨attentionLine_lost lost.symm, fun on => ?_⟩
  by_cases sent : c = .replySent
  · rw [sent]
    exact replySent_lost lost.symm
  · obtain ⟨act, arm, -⟩ := mainEvent_of on sent
    rw [arm s]
    exact whileRunning_lost lost.symm

/-- Settles O5: every command of the management link is taken fairly, or refused for its body. -/
theorem commandsAreAnswered : Obligations.CommandsAreAnswered := by
  intro c s m kind tag bad headed ready
  obtain ⟨α, body, act, arm, malformed, fair⟩ := managed_of_heading headed
  rw [arm s]
  cases body with
  | malformed =>
    exact ⟨_, .badValue, .nothing, command_malformed kind tag act ready.1 ready.2, rfl, fun _ => rfl, fun _ => ⟨rfl, rfl⟩⟩
  | read f =>
    refine ⟨_, _, _, command_listening ready f act kind tag, rfl, fun on => ?_, fun other => ?_⟩
    · rw [← malformed] at on
      cases on
    · have refused := (fair f (partOf s (listening m))).refused other
      generalize (act f (partOf s (listening m))).status = st at refused
      rw [refused]
      exact ⟨rfl, rfl⟩

/-- Settles O6: by the three ways such a frame is taken during a reply. -/
theorem framesDuringAReplyAreCounted : Obligations.FramesDuringAReplyAreCounted := by
  intro c s m r tag running replying frame
  have counted : (Part.hunt ⟨s.ret, m⟩ .management).overrunBy tag = ⟨s.ret, { listening m with
      overrun := some (match m.overrun with
        | none => ⟨tag, tag, 1⟩
        | some o => ⟨o.first, tag, min (o.count + 1) 255⟩) }⟩ := by
    unfold Part.overrunBy Overrun.count1 Part.hunt
    dsimp only
    cases m.overrun <;> rfl
  refine Eq.trans ?_ (congrArg (fun p => Host.Outcome.next (s.withPart p)) counted)
  rcases frame with ⟨kind, bad, headed⟩ | ⟨kind, free, rfl⟩ | rfl
  · obtain ⟨α, body, act, arm, -⟩ := managed_of_heading headed
    rw [arm s]
    exact command_replying kind tag act running replying body
  · rw [exec_unknownCommand, execUnknownCommand, if_neg (Bool.eq_false_iff.1 free), whileRunning_running running]
    simp [Part.takeUnknown, replying]
  · rw [exec_commandDuringReply, whileRunning_running running]
    simp [Part.duringReply, replying]

/-- Settles O7: by the one line each of these frames and gaps has. -/
theorem framesWithoutEffect : Obligations.FramesWithoutEffect := by
  refine ⟨fun s m kind tag ready free => ?_, fun s m running => ⟨?_, ?_, fun link => ?_, fun wire => ?_, fun wire idle => ?_,
    fun wire which busy => ?_⟩⟩
  · obtain ⟨running, ready⟩ := ready
    change exec _ s = _
    rw [exec_unknownCommand, execUnknownCommand, if_neg (Bool.eq_false_iff.1 free), whileRunning_running running]
    have hunted : (Part.hunt ⟨s.ret, m⟩ .management).main.mgmt = .ready := ready
    unfold Part.takeUnknown
    dsimp only
    rw [hunted]
    rfl
  · exact (exec_managementFrameDiscarded s).trans (whileRunning_running running _)
  · exact (exec_dispatcherFrameDiscarded s).trans (whileRunning_running running _)
  · rw [exec_unsolicitedPanelFrame, whileRunning_running running]
    unfold Part.panelFrame
    dsimp only
    split <;> rfl
  · exact (exec_frameStart wire s).trans (whileRunning_running running _)
  · rw [frameGapTimeout_running running, idle]
    exact congrArg Host.Outcome.next (withPart_self running)
  · rw [frameGapTimeout_running running, busy, if_pos rfl]
    rcases which with rfl | rfl <;> rfl

/-- Settles O8: RESTART's own reply stops the main well; any other is followed by the overrun record, if there is one. -/
theorem repliesAreSentAndRestartStops : Obligations.RepliesAreSentAndRestartStops := by
  refine ⟨⟨fun s m tag ready => doneWith_of (exec_restart tag _ s) ready rfl rfl rfl, fun s m tag running replying => ?_⟩,
    fun s m r running replying other => ?_⟩
  · rw [exec_replySent]
    unfold execReplySent
    rw [running]
    dsimp only
    rw [replying]
    refine congrArg Host.Outcome.next ?_
    unfold State.restartStop State.mainStop State.startCondition Retention.afterStop
    dsimp only
    cases s.retentionSupply <;> cases s.mainOk && s.resetReleased <;> simp
  · have unstopped : restartDone r = false := by
      rw [restartDone, Bool.and_eq_false_iff, decide_eq_false_iff_not, decide_eq_false_iff_not]
      exact other
    rw [exec_replySent]
    unfold execReplySent
    rw [running]
    dsimp only
    rw [replying]
    dsimp only
    rw [unstopped, if_neg Bool.false_ne_true]
    exact congrArg (fun p => Host.Outcome.next (s.withPart p)) (nextReply_eq ⟨s.ret, m⟩)

end Sys2Proof.Proofs
end

section
/-! SUPPORT. The reads, which change nothing and answer with the values of the step (R17, R36, R56, R83, R148, R167, R180,
R193 to R195). -/

namespace Sys2Proof.Laws

open Sys2Proof.Machine Sys2Proof.Safety

section
variable {s : State} {m : Main} {kind tag : Byte} {c : Instr} {α : Type} {f : α} {act : α → Part → Taken} {ok : Bool}
  {st : Status}

theorem doneWith_of_passing (arm : exec c s = command kind tag (.read f) act s) (ready : Ready s m) (passes : ok = true)
    {results : Results} (guard : act f (partOf s (listening m)) =
      if !ok then refuse (partOf s (listening m)) st else done (partOf s (listening m)) results) :
    doneWith c s s.ret (listening m) kind tag results :=
  doneWith_of arm ready (guard.trans (if_neg (by rw [passes]; exact Bool.false_ne_true))) rfl rfl

theorem refusedWith_of_failing (arm : exec c s = command kind tag (.read f) act s) (ready : Ready s m) (fails : ok = false)
    {rest : Taken} (guard : act f (partOf s (listening m)) = if !ok then refuse (partOf s (listening m)) st else rest) :
    refusedWith c s m kind tag st :=
  refusedWith_of arm ready (guard.trans (if_pos (by rw [fails]; rfl)))

end

theorem groupOk_eq_false {g : Byte} (late : 8 ≤ g.toNat) : groupOk g = false :=
  decide_eq_false (Nat.not_lt.2 late)

theorem dropOk_eq_false {d : Byte} (late : 96 ≤ d.toNat) : dropOk d = false :=
  decide_eq_false (Nat.not_lt.2 late)

theorem slotOk_eq_false {n : Byte} (late : 2 ≤ n.toNat) : slotOk n = false := decide_eq_false (Nat.not_lt.2 late)

theorem scheduleOk_iff (n : Byte) : scheduleOk n = true ↔ n ≠ 0 ∧ n.toNat ≤ 63 := by
  rw [scheduleOk, Bool.and_eq_true, decide_eq_true_eq, decide_eq_true_eq]

/-- Entry k of a list read in order is the value of k. -/
theorem getElem?_map_range {β : Type} (f : Nat → β) {n k : Nat} (small : k < n) : ((List.range n).map f)[k]? = some (f k) := by
  rw [List.getElem?_map, List.getElem?_range small, Option.map_some]

/-! ## TICKET_READ's views (R148, R195) -/

theorem tickets_of_views (p : Part) (test : Ticket → Bool) :
    (p.ticketViews.filter fun v => test v.ticket).map TicketView.ticket = p.main.tickets.filter test := by
  have places : p.main.tickets = (p.main.tickets.zipIdx).map Prod.fst := (List.zipIdx_map_fst 0 _).symm
  conv => rhs; rw [places]
  unfold Part.ticketViews
  rw [List.filter_map, List.map_map, List.filter_map]
  rfl

theorem view_at {p : Part} {v : TicketView} (mem : v ∈ p.ticketViews) : p.main.tickets[v.ordinal]? = some v.ticket := by
  obtain ⟨e, listed, rfl⟩ := List.mem_map.1 mem
  exact List.mem_zipIdx_iff_getElem?.1 listed

theorem zipIdx_filter_at {β : Type} (l : List β) (i k : Nat) :
    ((l.zipIdx i).filter fun e => decide (e.2 = i + k)) = (l[k]?).toList.map fun t => (t, i + k) := by
  induction l generalizing i k with
  | nil => rfl
  | cons a l ih =>
    rw [List.zipIdx_cons]
    cases k with
    | zero =>
      have later : (l.zipIdx (i + 1)).filter (fun e => decide (e.2 = i + 0)) = [] := by
        refine List.filter_eq_nil_iff.2 fun e mem => ?_
        have above := (List.mem_zipIdx mem).1
        rw [decide_eq_true_eq]
        omega
      rw [List.filter_cons_of_pos (p := fun e : β × Nat => decide (e.2 = i + 0)) (decide_eq_true rfl), later]
      rfl
    | succ k =>
      have other : ¬decide (i = i + (k + 1)) = true := by
        rw [decide_eq_true_eq]
        omega
      rw [List.filter_cons_of_neg (p := fun e : β × Nat => decide (e.2 = i + (k + 1))) other,
        show i + (k + 1) = i + 1 + k by omega]
      exact ih (i + 1) k

theorem views_at (p : Part) (k : Nat) : (p.ticketViews.filter fun v => decide (v.ordinal = k)) =
    (p.main.tickets[k]?).toList.map fun t => ⟨k, t⟩ := by
  have places := zipIdx_filter_at p.main.tickets 0 k
  rw [Nat.zero_add] at places
  unfold Part.ticketViews
  rw [List.filter_map]
  refine (congrArg (List.map _) places).trans ?_
  rw [List.map_map]
  rfl

theorem takeTicketRead_byBadge (p : Part) {b : Badge} (key : badgeKey b = true) : takeTicketRead (.byBadge b) p =
    if (p.ticketViews.filter fun v => decide (v.ticket.badge = b)).isEmpty then refuse p .notFound
    else done p (p.ticketReply (p.ticketViews.filter fun v => decide (v.ticket.badge = b))) :=
  if_neg (by rw [key]; exact Bool.false_ne_true)

theorem takeTicketRead_byOrdinal (p : Part) {k : Half} (place : k.toNat < 1024) : takeTicketRead (.byOrdinal k) p =
    if ((p.main.tickets[k.toNat]?).toList.map fun t => TicketView.mk k.toNat t).isEmpty then refuse p .notFound
    else done p (p.ticketReply ((p.main.tickets[k.toNat]?).toList.map fun t => ⟨k.toNat, t⟩)) := by
  rw [← views_at]
  exact if_neg (Nat.not_le.2 place)

/-! ## MODE_READ and CALL_READ -/

theorem mem_linesOn {p : Part} {g k : Nat} {mode : Mode} :
    (k, mode) ∈ p.linesOn g ↔ k < 8 ∧ ∃ gs, p.lineDemand k = some (mode, gs) ∧ inSet gs g = true := by
  rw [Part.linesOn, List.mem_filterMap]
  constructor
  · rintro ⟨n, listed, same⟩
    cases demand : p.lineDemand n with
    | none =>
      rw [demand] at same
      cases same
    | some d =>
      rw [demand] at same
      dsimp only at same
      split at same
      next within =>
        cases same
        exact ⟨mem_eight.1 listed, d.2, demand, within⟩
      · cases same
  · rintro ⟨small, gs, demand, within⟩
    refine ⟨k, mem_eight.2 small, ?_⟩
    rw [demand]
    exact if_pos within

theorem takeCallRead_bySlot (p : Part) {n : Byte} (place : n.toNat < 32) : takeCallRead (.bySlot n) p =
    done p ((Table.lookup p.main.calls n.toNat).elim .slotFree (p.callReply n.toNat)) := by
  refine (if_neg (Nat.not_le.2 place)).trans ?_
  cases Table.lookup p.main.calls n.toNat <;> rfl

theorem takeCallRead_byNumber (p : Part) {k : Half} (nonzero : k ≠ 0) : takeCallRead (.byNumber k) p =
    (p.callNumbered k).elim (refuse p .notFound) fun e => done p (p.callReply e.1 e.2) := by
  refine (if_neg nonzero).trans ?_
  cases p.callNumbered k <;> rfl

end Sys2Proof.Laws

namespace Sys2Proof.Proofs

open Sys2Proof.Machine Sys2Proof.Safety Sys2Proof.Laws

/-- Settles O26: each read by its one check. -/
theorem retentionReads : Obligations.RetentionReads := by
  intro s m tag n ready
  refine ⟨fun v nonzero found => ?_, fun small => ?_, ?_, ?_, fun nonzero last => ?_, ?_, ?_, fun small => ?_, ?_,
    fun small => ?_, ?_, fun late => ?_, fun bad => ?_, fun late => ?_, fun late => ?_⟩
  · have there : (partOf s (listening m)).tenant n = some v := found
    exact doneWith_of (exec_tenantRead tag _ s) ready (onTenant_present nonzero there _) rfl rfl
  · exact doneWith_of_passing (exec_overlayRead tag _ s) ready ((slotOk_iff n).2 small) rfl
  · exact doneWith_of (exec_calRead tag _ s) ready rfl rfl rfl
  · exact doneWith_of (exec_holidayRead tag _ s) ready rfl rfl rfl
  · exact doneWith_of_passing (exec_schedRead tag _ s) ready ((scheduleOk_iff n).2 ⟨nonzero, last⟩) rfl
  · exact doneWith_of (exec_paramRead tag _ s) ready rfl rfl rfl
  · refine ⟨_, doneWith_of (exec_landingRead tag _ s) ready rfl rfl rfl, by simp [Config.lastLanding], fun l small => ?_⟩
    rw [getElem?_map_range _ small, Part.kindOf, byte, BitVec.toNat_ofNat, Nat.mod_eq_of_lt (by omega)]
  · exact doneWith_of_passing (exec_groupRead tag _ s) ready ((groupOk_iff n).2 small) rfl
  · exact ⟨_, doneWith_of (exec_transferRead tag _ s) ready rfl rfl rfl, by simp [Config.transfers], fun k small =>
      getElem?_map_range _ small⟩
  · exact doneWith_of_passing (exec_panelRead tag _ s) ready ((dropOk_iff n).2 small) rfl
  · exact refusedInOrder_of (exec_tenantRead tag _ s) ready (onTenant_checked (more := []) fun _ _ => rfl)
  · exact refusedWith_of_failing (exec_overlayRead tag _ s) ready (slotOk_eq_false late) rfl
  · refine refusedWith_of_failing (exec_schedRead tag _ s) ready (ok := scheduleOk n) ?_ rfl
    rw [Bool.eq_false_iff, ne_eq, scheduleOk_iff]
    rintro ⟨nonzero, last⟩
    rcases bad with zero | late
    · exact nonzero zero
    · exact Nat.not_lt.2 last late
  · exact refusedWith_of_failing (exec_groupRead tag _ s) ready (groupOk_eq_false late) rfl
  · exact refusedWith_of_failing (exec_panelRead tag _ s) ready (dropOk_eq_false late) rfl

/-- Settles O27: each read by its one check, the tickets by the views, a call by the slot or the number it is asked for. -/
theorem mainWellReads : Obligations.MainWellReads := by
  intro s m tag n ready
  let p := partOf s (listening m)
  refine ⟨fun b key held => ?_, fun b key bare => ?_, fun k t place there => ?_, fun small => ?_, ?_, fun small => ?_, ?_, ?_,
    fun small free => ?_, fun c small found => ?_, fun k slot c nonzero found => ?_, fun k nonzero bare => ?_, fun b bad => ?_,
    fun k late => ?_, fun k place late => ?_, fun late => ?_, fun late => ?_, fun late => ?_, ?_⟩
  · obtain ⟨t, mem, same⟩ := held
    have all := tickets_of_views p fun t => decide (t.badge = b)
    have some : ¬(p.ticketViews.filter fun v => decide (v.ticket.badge = b)).isEmpty = true := by
      rw [List.isEmpty_iff]
      intro nothing
      rw [nothing] at all
      have listed : t ∈ p.main.tickets.filter fun t => decide (t.badge = b) := List.mem_filter.2 ⟨mem, decide_eq_true same⟩
      rw [← all] at listed
      cases listed
    exact ⟨_, doneWith_of (exec_ticketRead tag _ s) ready ((takeTicketRead_byBadge p key).trans (if_neg some)) rfl rfl, all,
      fun v listed => view_at (List.mem_filter.1 listed).1⟩
  · have nothing : (p.ticketViews.filter fun v => decide (v.ticket.badge = b)).isEmpty = true := by
      rw [List.isEmpty_iff]
      refine List.filter_eq_nil_iff.2 fun v mem => ?_
      rw [decide_eq_true_eq]
      exact bare v.ticket (List.mem_of_getElem? (view_at mem))
    exact refusedWith_of (exec_ticketRead tag _ s) ready ((takeTicketRead_byBadge p key).trans (if_pos nothing))
  · refine doneWith_of (exec_ticketRead tag _ s) ready ((takeTicketRead_byOrdinal p place).trans ?_) (q := p) rfl rfl
    rw [show p.main.tickets[k.toNat]? = some t from there]
    rfl
  · cases poll : ((partOf s m).panelLink (n.toNat / 16)).poll with
    | none =>
      refine doneWith_of_passing (exec_dropRead tag _ s) ready ((dropOk_iff n).2 small) (st := .badValue) ?_
      unfold takeDropRead
      dsimp only
      rw [show ((partOf s (listening m)).panelLink (n.toNat / Config.addresses)).poll = none from poll]
      rfl
    | some k =>
      refine doneWith_of_passing (exec_dropRead tag _ s) ready ((dropOk_iff n).2 small) (st := .badValue) ?_
      unfold takeDropRead
      dsimp only
      rw [show ((partOf s (listening m)).panelLink (n.toNat / Config.addresses)).poll = some k from poll]
      rfl
  · exact doneWith_of (exec_alarmRead tag _ s) ready rfl rfl rfl
  · exact ⟨p.linesOn n.toNat, doneWith_of_passing (exec_modeRead tag _ s) ready ((groupOk_iff n).2 small) rfl, fun k mode =>
      mem_linesOn (p := p)⟩
  · exact doneWith_of (exec_attnRead tag _ s) ready rfl rfl rfl
  · exact doneWith_of (exec_statusRead tag _ s) ready rfl rfl rfl
  · refine doneWith_of (exec_callRead tag _ s) ready ((takeCallRead_bySlot p small).trans ?_) (q := p) rfl rfl
    rw [show Table.lookup p.main.calls n.toNat = none from free]
    rfl
  · refine doneWith_of (exec_callRead tag _ s) ready ((takeCallRead_bySlot p small).trans ?_) (q := p) rfl rfl
    rw [show Table.lookup p.main.calls n.toNat = some c from found]
    rfl
  · refine doneWith_of (exec_callRead tag _ s) ready ((takeCallRead_byNumber p nonzero).trans ?_) (q := p) rfl rfl
    rw [show p.callNumbered k = some (slot, c) from found]
    rfl
  · refine refusedWith_of (exec_callRead tag _ s) ready ((takeCallRead_byNumber p nonzero).trans ?_)
    have nothing : p.callNumbered k = none := List.find?_eq_none.2 fun e mem => by
      rw [decide_eq_true_eq]
      exact bare e mem
    rw [nothing]
    rfl
  · refine refusedWith_of (exec_ticketRead tag _ s) ready (if_pos ?_)
    rcases bad with rfl | rfl <;> rfl
  · exact refusedWith_of (exec_ticketRead tag _ s) ready (if_pos late)
  · refine refusedWith_of (exec_ticketRead tag _ s) ready ((takeTicketRead_byOrdinal p place).trans ?_)
    rw [List.getElem?_eq_none (show p.main.tickets.length ≤ k.toNat from late)]
    rfl
  · exact refusedWith_of_failing (exec_dropRead tag _ s) ready (dropOk_eq_false late) rfl
  · exact refusedWith_of_failing (exec_modeRead tag _ s) ready (groupOk_eq_false late) rfl
  · exact refusedWith_of (exec_callRead tag _ s) ready (if_pos late)
  · exact refusedWith_of (exec_callRead tag _ s) ready rfl

end Sys2Proof.Proofs
end

section
/-! SUPPORT. Calls unwound one after the other (R121, R124, R125): what that leaves of records, tickets and drops. -/

namespace Sys2Proof.Laws

open Sys2Proof.Machine Sys2Proof.Safety

/-- What an ending of its call leaves of a linked ticket (R121). -/
def settledTicket (now : Nat) (t : Ticket) : Option Ticket :=
  match t.state with
  | .pending _ => none
  | .issued e => some { t with state := .issued e }
  | .claimed e _ => if e ≤ now then none else some { t with state := .issued e }

/-- One of the ended calls charges a badge's trip. -/
def chargedBy (ended : List (Nat × Call)) (b : Badge) : Bool :=
  ended.any fun e => e.2.charge && decide (e.2.badge = some b)

/-- One of the ended calls is linked to a ticket. -/
def heldBy (ended : List (Nat × Call)) (t : Ticket) : Bool := ended.any fun e => t.linkedTo ⟨e.2.number, e.1⟩

/-- The answers that the ended calls of a drop leave in its list. -/
def toldOf (why : NoService) (ended : List (Nat × Call)) (i : Nat) : List AnswerEntry :=
  (ended.filter fun e => decide (e.2.drop = i)).map fun _ => ⟨.noService why, false⟩

/-- What the unwinding of some calls makes of records, tickets and drops. -/
structure UnwoundAll (why : NoService) (ended : List (Nat × Call)) (p q : Part) : Prop where
  release : ∀ b, q.cred b = (p.cred b).map fun c => if chargedBy ended b = true then { c with reserved := false } else c
  tickets : q.main.tickets = p.main.tickets.filterMap fun t =>
    if heldBy ended t = true then settledTicket p.main.now t else some t
  answers : ∀ i, q.drop i =
    if (p.drop i).state = .up then { p.drop i with answers := (p.drop i).answers ++ toldOf why ended i } else p.drop i

section
variable {p q r : Part} {why : NoService} {ended : List (Nat × Call)} {e : Nat × Call}

theorem chargedBy_cons (b : Badge) :
    chargedBy (e :: ended) b = ((e.2.charge && decide (e.2.badge = some b)) || chargedBy ended b) := List.any_cons

theorem heldBy_cons (t : Ticket) : heldBy (e :: ended) t = (t.linkedTo ⟨e.2.number, e.1⟩ || heldBy ended t) := List.any_cons

theorem toldOf_cons (i : Nat) :
    toldOf why (e :: ended) i = if e.2.drop = i then ⟨.noService why, false⟩ :: toldOf why ended i else toldOf why ended i := by
  unfold toldOf
  rw [List.filter_cons]
  by_cases same : e.2.drop = i
  · rw [if_pos (decide_eq_true same), if_pos same, List.map_cons]
  · rw [if_neg (by rw [decide_eq_true_eq]; exact same), if_neg same]

/-- An ISSUED ticket is linked to no call. -/
theorem heldBy_issued (t : Ticket) (n : Nat) : heldBy ended { t with state := .issued n } = false := by
  refine List.any_eq_false.2 fun e _ linked => ?_
  exact absurd (of_decide_eq_true linked) (Option.some_ne_none _).symm

/-- A ticket settled by one ending stays as it is through the others. -/
theorem settledTicket_bind (now : Nat) (t : Ticket) (f : Ticket → Option Ticket)
    (kept : ∀ n, f { t with state := .issued n } = some { t with state := .issued n }) :
    (settledTicket now t).bind f = settledTicket now t := by
  unfold settledTicket
  cases t.state with
  | pending l => rfl
  | issued n => exact kept n
  | claimed n l =>
    dsimp only
    split
    · rfl
    · exact kept n

theorem UnwoundAll.refl (why : NoService) (p : Part) : UnwoundAll why [] p p where
  release b := by simp [chargedBy]
  tickets := by simp [heldBy]
  answers i := by simp [toldOf]

/-- The parts of an unwinding alone matter. -/
theorem UnwoundAll.congr (h : UnwoundAll why ended p q) {p' q' : Part} (creds : p'.ret.creds = p.ret.creds)
    (tickets : p'.main.tickets = p.main.tickets) (drops : p'.main.drops = p.main.drops) (now : p'.main.now = p.main.now)
    (creds' : q'.ret.creds = q.ret.creds) (tickets' : q'.main.tickets = q.main.tickets)
    (drops' : q'.main.drops = q.main.drops) : UnwoundAll why ended p' q' where
  release b := by rw [Part.cred, creds', Part.cred, creds]; exact h.release b
  tickets := by rw [tickets', tickets, now]; exact h.tickets
  answers i := by
    have before : p'.drop i = p.drop i := by rw [Part.drop, drops, Part.drop]
    have after : q'.drop i = q.drop i := by rw [Part.drop, drops', Part.drop]
    rw [before, after]
    exact h.answers i

theorem UnwoundAll.cons (first : UnwoundAll why [e] p q) (rest : UnwoundAll why ended q r)
    (now : q.main.now = p.main.now) : UnwoundAll why (e :: ended) p r where
  release b := by
    rw [rest.release, first.release, Option.map_map]
    refine congrArg (fun f => Option.map f (p.cred b)) (funext fun c => ?_)
    rw [Function.comp_apply, chargedBy_cons, chargedBy_cons, show chargedBy [] b = false from rfl, Bool.or_false]
    cases e.2.charge && decide (e.2.badge = some b) <;> cases chargedBy ended b <;> rfl
  tickets := by
    rw [rest.tickets, first.tickets, now, List.filterMap_filterMap]
    refine congrArg (fun f => List.filterMap f p.main.tickets) (funext fun t => ?_)
    rw [heldBy_cons, heldBy_cons, show heldBy [] t = false from rfl, Bool.or_false]
    cases t.linkedTo ⟨e.2.number, e.1⟩ with
    | false => rfl
    | true =>
      rw [Bool.true_or, if_pos rfl]
      exact settledTicket_bind _ _ _ fun n => if_neg (by rw [heldBy_issued]; exact Bool.false_ne_true)
  answers i := by
    rw [rest.answers, first.answers, toldOf_cons, toldOf_cons]
    by_cases up : (p.drop i).state = .up
    · rw [if_pos up, if_pos up, if_pos up]
      by_cases same : e.2.drop = i
      · simp [same, toldOf]
      · simp [same, toldOf]
    · rw [if_neg up, if_neg up, if_neg up]

theorem unwoundAll_unwind (p : Part) (e : Nat × Call) (why : NoService) : UnwoundAll why [e] p (p.unwind e.1 e.2 why) where
  release b := by
    rw [unwind_cred]
    by_cases charges : e.2.charge = true ∧ e.2.badge = some b
    · have charged : chargedBy [e] b = true := by simp [chargedBy, charges]
      simp only [if_pos charges, charged]
      rfl
    · have free : ¬chargedBy [e] b = true := by simpa [chargedBy] using charges
      simp only [if_neg charges, if_neg free]
      exact (Option.map_id_apply ..).symm
  tickets := by
    rw [unwind_main]
    refine congrArg (fun f => List.filterMap f p.main.tickets) (funext fun t => ?_)
    rw [heldBy_cons, show heldBy [] t = false from rfl, Bool.or_false]
    rfl
  answers i := by
    rw [unwind_drop, tell_spec, toldOf_cons]
    by_cases same : e.2.drop = i
    · subst same
      split
      · rw [if_pos rfl]
        exact get_set_self _ _ _ _
      · rfl
    · rw [if_neg same]
      split
      · rw [drop_setDrop_ne p (Ne.symm same)]
        simp [toldOf]
      · simp [toldOf]

/-- The calls of a list unwound in turn. -/
theorem unwoundAll_foldl (why : NoService) (l : List (Nat × Call)) (p : Part) :
    UnwoundAll why l p (l.foldl (fun q e => q.unwind e.1 e.2 why) p) := by
  induction l generalizing p with
  | nil => exact .refl why p
  | cons e l ih => exact (unwoundAll_unwind p e why).cons (ih _) (by rw [unwind_main])

theorem unwindFold_frame (why : NoService) (l : List (Nat × Call)) (p : Part) :
    (l.foldl (fun q e => q.unwind e.1 e.2 why) p).ret =
        { p.ret with creds := (l.foldl (fun q e => q.unwind e.1 e.2 why) p).ret.creds } ∧
      (l.foldl (fun q e => q.unwind e.1 e.2 why) p).main = { p.main with
        tickets := (l.foldl (fun q e => q.unwind e.1 e.2 why) p).main.tickets
        drops := (l.foldl (fun q e => q.unwind e.1 e.2 why) p).main.drops
        calls := l.foldl (fun t e => Table.erase t e.1) p.main.calls } := by
  induction l generalizing p with
  | nil => exact ⟨rfl, rfl⟩
  | cons e l ih =>
    obtain ⟨ret, main⟩ := ih (p.unwind e.1 e.2 why)
    obtain ⟨ret', main'⟩ := unwind_frame p e.1 e.2 why
    rw [List.foldl_cons, ret, main, ret', main']
    exact ⟨rfl, rfl⟩

/-- One call unwound, as the statements say it. -/
theorem unwound_unwind (p : Part) (slot : Nat) (c : Call) (why : NoService) : Unwound p (p.unwind slot c why) slot c why where
  release b := by
    rw [unwind_cred]
    split
    · rfl
    · exact (Option.map_id_apply ..).symm
  tickets := by rw [unwind_main]; rfl
  answer := by
    rw [unwind_drop, tell_spec]
    split
    · exact get_set_self _ _ _ _
    · rfl
  drops j other := by
    rw [unwind_drop, tell_spec]
    split
    · exact drop_setDrop_ne p other _
    · rfl
  ret := (unwind_frame p slot c why).1
  main := (unwind_frame p slot c why).2

/-- All calls of a table are taken out, one after the other. -/
theorem foldl_erase_self (t : Table Call) : t.foldl (fun u e => Table.erase u e.1) t = [] := by
  rw [foldl_erase_eq_filter]
  refine List.filter_eq_nil_iff.2 fun e mem => ?_
  rw [decide_eq_true_eq]
  exact fun apart => apart e mem rfl

/-- The one answer of a drop that at most one call names. -/
theorem toldOf_apart {l : List (Nat × Call)} (apart : l.Pairwise fun a b => a.2.drop ≠ b.2.drop) (i : Nat) :
    toldOf why l i = if (l.any fun e => decide (e.2.drop = i)) = true then [⟨.noService why, false⟩] else [] := by
  induction l with
  | nil => rfl
  | cons e l ih =>
    obtain ⟨first, apart⟩ := List.pairwise_cons.1 apart
    rw [toldOf_cons, ih apart, List.any_cons]
    by_cases same : e.2.drop = i
    · have none' : (l.any fun d => decide (d.2.drop = i)) = false := List.any_eq_false.2 fun d mem there =>
        first d mem (same.trans (of_decide_eq_true there).symm)
      rw [none']
      simp [same]
    · rw [if_neg same, decide_eq_false same, Bool.false_or]

end

end Sys2Proof.Laws

namespace Sys2Proof.Proofs

open Sys2Proof.Machine Sys2Proof.Safety Sys2Proof.Laws

/-- Settles O44: both frames and the timer find the call and unwind it. -/
theorem callsAreUnwound : Obligations.CallsAreUnwound := by
  intro s m number slot c running found
  refine ⟨fun code small => ?_, fun expired => ?_, fun early => ?_⟩
  · have ok : codeOk code = true := decide_eq_true small
    have there : ((partOf s m).hunt .dispatcher).callNumbered number = some (slot, c) := found
    refine ⟨_, ?_, unwound_unwind _ slot c (.declined code)⟩
    rw [exec_callDeclined, whileRunning_running running]
    dsimp only
    rw [if_pos ok, Part.declined, there]
    rfl
  · refine ⟨_, ?_, unwound_unwind _ slot c .timeout⟩
    rw [exec_callTimerExpiry, whileRunning_running running, Part.timeout, found]
    exact congrArg (fun p => Host.Outcome.next (s.withPart p)) (if_pos expired)
  · rw [exec_callTimerExpiry, whileRunning_running running, Part.timeout, found]
    exact congrArg Host.Outcome.next ((congrArg s.withPart (if_neg (Nat.not_le.2 early))).trans (withPart_self running))

/-- Settles O47: the calls are unwound in turn; each names its own drop, and each link has its call. -/
theorem livenessExpiryTakesTheLinkDown : Obligations.LivenessExpiryTakesTheLinkDown := by
  intro s m running inv
  have lawful := (inv_running_iff running).1 inv
  have expires : exec .livenessTimerExpiry s = .next (s.withPart (partOf s m).livenessEnd) :=
    (exec_livenessTimerExpiry s).trans (whileRunning_running running _)
  refine ⟨fun early => ?_, fun ⟨e, timer, past⟩ => ?_⟩
  · refine expires.trans (congrArg Host.Outcome.next (Eq.trans (congrArg s.withPart ?_) (withPart_self running)))
    unfold Part.livenessEnd
    split
    · rfl
    next e timer => exact if_neg (Nat.not_le.2 (early e timer))
  · have ended : (partOf s m).livenessEnd = (partOf s m).linkDown := by
      rw [Part.livenessEnd, show (partOf s m).main.liveness = some e from timer]
      exact if_pos past
    rw [expires, ended]
    refine ⟨fun qualifying => ?_, fun up => ?_⟩
    · have down : (partOf s m).main.link ≠ .up := by
        change m.link ≠ .up
        rw [qualifying]
        decide
      unfold Part.linkDown
      rw [if_neg down]
    · have dropped : (partOf s m).linkDown = ⟨(partOf s m).dropCalls.ret, { (partOf s m).dropCalls.main with
          link := .down, liveness := none, aliveRun := 0, inService := 0 }⟩ := by
        unfold Part.linkDown
        rw [if_pos (show (partOf s m).main.link = .up from up)]
      have unwound : UnwoundAll .dispatcherDown m.calls (partOf s m) (partOf s m).dropCalls := unwoundAll_foldl _ _ _
      obtain ⟨ret, main⟩ := unwindFold_frame .dispatcherDown m.calls (partOf s m)
      rw [foldl_erase_self] at main
      refine ⟨_, rfl, ?_, ?_, fun b => ?_, ?_, fun i => ?_⟩
      · rw [dropped]
        exact ret
      · rw [dropped]
        exact congrArg (fun m' : Main => { m' with link := .down, liveness := none, aliveRun := 0, inService := 0 }) main
      · rw [dropped]
        exact unwound.release b
      · rw [dropped]
        refine unwound.tickets.trans (List.filterMap_congr fun t mem => ?_)
        obtain ⟨-, answered⟩ := lawful.main.tickets.1 t mem
        cases link : t.state.link with
        | none =>
          cases state : t.state with
          | pending l => rw [state] at link; cases link
          | claimed n l => rw [state] at link; cases link
          | issued n =>
            have same : t = { t with state := .issued n } := by rw [← state]
            dsimp only
            rw [same, heldBy_issued]
            rfl
        | some l =>
          obtain ⟨c, there, number, -⟩ := answered l link
          have held : heldBy m.calls t = true := List.any_eq_true.2 ⟨(l.slot, c), mem_of_lookup there,
            decide_eq_true (by rw [link, number])⟩
          rw [if_pos held]
          rfl
      · have apart : m.calls.Pairwise fun a b => a.2.drop ≠ b.2.drop := lawful.main.calls.1.imp fun h => h.2.1
        rw [dropped]
        refine (unwound.answers i).trans ?_
        rw [toldOf_apart apart]
        by_cases up : ((partOf s m).drop i).state = .up
        · rw [if_pos up]
          by_cases named : (m.calls.any fun e => decide (e.2.drop = i)) = true
          · have both := And.intro up named
            rw [if_pos named, if_pos both]
          · rw [if_neg named, if_neg (mt And.right named), List.append_nil]
        · rw [if_neg up, if_neg (mt And.left up)]

end Sys2Proof.Proofs
end

section
/-! SUPPORT. Groups recomputed in turn (R124, R146, R176, R178, R179): the whole effect of a recomputing. -/

namespace Sys2Proof.Laws

open Sys2Proof.Machine Sys2Proof.Safety

/-! ## The send queue's 64 places (R133) -/

theorem take_append_take {α : Type} (n : Nat) (a b c : List α) :
    ((a ++ b).take n ++ c).take n = (a ++ (b ++ c)).take n := by
  rw [← List.append_assoc]
  by_cases room : (a ++ b).length ≤ n
  · rw [List.take_of_length_le room]
  · have full : n ≤ (a ++ b).length := Nat.le_of_not_le room
    have exactly : ((a ++ b).take n).length = n := List.length_take_of_le full
    rw [List.take_append_of_le_length full, List.take_append_of_le_length (Nat.le_of_eq exactly.symm), List.take_take,
      Nat.min_self]

section
variable {p q r : Part} {g : Nat}

theorem send_queue (f : DispatcherFrame) (room : p.main.sendQueue.length ≤ 64) :
    (p.send f).main.sendQueue = (p.main.sendQueue ++ [f]).take 64 := by
  rw [send_main]
  dsimp only [Config.sendQueue]
  split
  next free => exact (List.take_of_length_le (by rw [List.length_append]; exact free)).symm
  next full =>
    have exactly : p.main.sendQueue.length = 64 := by omega
    exact ((List.take_append_of_le_length (Nat.le_of_eq exactly.symm)).trans
      (List.take_of_length_le (Nat.le_of_eq exactly))).symm

/-! ## Calls cancelled in turn (R124) -/

theorem unwoundAll_cancelCall (p : Part) (e : Nat × Call) : UnwoundAll .cancelled [e] p (p.cancelCall e) := by
  refine (unwoundAll_unwind (p.send (.callCancel e.2.number)) e .cancelled).congr ?_ ?_ ?_ ?_ rfl rfl rfl
  · rw [send_ret]
  all_goals rw [send_main]

theorem unwoundAll_cancelFold (l : List (Nat × Call)) (p : Part) :
    UnwoundAll .cancelled l p (l.foldl Part.cancelCall p) := by
  induction l generalizing p with
  | nil => exact .refl _ p
  | cons e l ih => exact (unwoundAll_cancelCall p e).cons (ih _) (by rw [(cancelCall_frame p e).2])

theorem cancelCall_queue (p : Part) (e : Nat × Call) :
    (p.cancelCall e).main.sendQueue = (p.send (.callCancel e.2.number)).main.sendQueue := by
  rw [Part.cancelCall, unwind_main]

theorem cancelFold_queue (l : List (Nat × Call)) (p : Part) (room : p.main.sendQueue.length ≤ 64) :
    (l.foldl Part.cancelCall p).main.sendQueue =
      (p.main.sendQueue ++ l.map fun e => DispatcherFrame.callCancel e.2.number).take 64 := by
  induction l generalizing p with
  | nil => rw [List.map_nil, List.append_nil, List.take_of_length_le room, List.foldl_nil]
  | cons e l ih =>
    have queue := (cancelCall_queue p e).trans (send_queue _ room)
    have room' : (p.cancelCall e).main.sendQueue.length ≤ 64 := by
      rw [queue, List.length_take]
      exact Nat.min_le_left _ _
    rw [List.foldl_cons, ih _ room', queue, take_append_take]
    rfl

/-! ## Groups that enter RECALL -/

theorem entersRecall_eq_false_of_same {n : Nat} (same : q.mode n = p.mode n) : entersRecall p q n = false := by
  rw [entersRecall, same, decide_not]
  cases decide (p.mode n = .recalled) <;> rfl

theorem endedCalls_of_calm (calm : ∀ n, entersRecall p q n = false) : endedCalls p q = [] :=
  List.filter_eq_nil_iff.2 fun e _ => by rw [calm]; exact Bool.false_ne_true

/-- The statements' words for an unwinding of the ended calls. -/
theorem heldBy_endedCalls (t : Ticket) : ((endedCalls p q).any fun e => t.linkedTo ⟨e.2.number, e.1⟩) =
    heldBy (endedCalls p q) t := rfl

/-! ## One group recomputed -/

/-- The part when a group's latch and mode are renewed and its notice is asked for. -/
def noticed (p : Part) (g : Nat) : Part := ((p.latch g).putMode g ((p.latch g).effectiveMode g)).notice g

theorem noticed_ret (p : Part) (g : Nat) : (noticed p g).ret = (p.latch g).ret := notice_ret _ _

theorem noticed_main (p : Part) (g : Nat) : (noticed p g).main = { p.main with
    modes := Table.set .normal p.main.modes g ((p.latch g).effectiveMode g), sendQueue := (noticed p g).main.sendQueue } := by
  rw [noticed, notice_main, putMode_main, (latch_spec p g).1]

theorem noticed_queue (p : Part) (g : Nat) (room : p.main.sendQueue.length ≤ 64) : (noticed p g).main.sendQueue =
    (p.main.sendQueue ++ [DispatcherFrame.modeNotice (byte g) ((p.latch g).effectiveMode g)
      ((Table.lookup p.ret.groups g).map GroupEntry.recallLanding)]).take 64 := by
  have main : ((p.latch g).putMode g ((p.latch g).effectiveMode g)).main.sendQueue = p.main.sendQueue := by
    rw [putMode_main, (latch_spec p g).1]
  have mode : ((p.latch g).putMode g ((p.latch g).effectiveMode g)).mode g = (p.latch g).effectiveMode g :=
    get_set_self _ _ _ _
  have landing : ((p.latch g).putMode g ((p.latch g).effectiveMode g)).recallLandingOf g =
      (Table.lookup p.ret.groups g).map GroupEntry.recallLanding := by
    rw [Part.recallLandingOf, putMode_ret, (latch_spec p g).2]
  rw [noticed, Part.notice, send_queue _ (by rw [main]; exact room), main, mode, landing]

theorem mode_latch (p : Part) (g n : Nat) : (p.latch g).mode n = p.mode n := by rw [Part.mode, (latch_spec p g).1, Part.mode]

theorem refreshGroup_of_same (same : (p.latch g).effectiveMode g = p.mode g) : p.refreshGroup g = p.latch g :=
  if_pos (same.trans (mode_latch p g g).symm)

theorem refreshGroup_of_change (change : (p.latch g).effectiveMode g ≠ p.mode g) : p.refreshGroup g =
    if (p.latch g).effectiveMode g = .recalled then ((noticed p g).cancelCalls g).removeGroupTickets g else noticed p g :=
  if_neg fun same => change (same.trans (mode_latch p g g))

/-- The fields of a recomputing that one group's latch and mode give, whatever becomes of the calls. -/
theorem refreshGroup_latches_at (place : g < 8) (k : Nat) : inSet (p.refreshGroup g).ret.latches k =
    (inSet p.ret.latches k || (decide (k ∈ [g]) && p.holds k .recalled)) := by
  rw [refreshGroup_latches]
  by_cases same : k = g
  · subst same
    rw [inSet_latch_self p place, decide_eq_true List.mem_cons_self, Bool.true_and]
  · rw [inSet_latch_ne p same, decide_eq_false (mt List.mem_singleton.1 same), Bool.false_and, Bool.or_false]

theorem refreshGroup_settled (place : g < 8) : ∀ k ∈ [g], (p.refreshGroup g).mode k = (p.refreshGroup g).effectiveMode k :=
  fun k mem => by
    rw [List.mem_singleton.1 mem]
    exact (refreshGroup_settles p place).1

theorem refreshGroup_others : ∀ k ∈ eight, k ∉ [g] → (p.refreshGroup g).mode k = p.mode k :=
  fun _ _ other => refreshGroup_mode_ne p (mt List.mem_singleton.2 other)

/-- A recomputing by which no group enters RECALL. -/
theorem recomputed_of_calm (place : g < 8) (calm : ∀ n, entersRecall p (p.refreshGroup g) n = false)
    (ret : (p.refreshGroup g).ret = (p.latch g).ret)
    (main : (p.refreshGroup g).main = { p.main with
      modes := (p.refreshGroup g).main.modes, sendQueue := (p.refreshGroup g).main.sendQueue })
    (frames : p.main.sendQueue.length ≤ 64 →
      (p.refreshGroup g).main.sendQueue = (p.main.sendQueue ++ askedFrames [g] p (p.refreshGroup g)).take 64)
    (quiet : (p.refreshGroup g).mode g = p.mode g → (p.refreshGroup g).main = p.main) :
    Recomputed [g] p (p.refreshGroup g) := by
  have creds : (p.refreshGroup g).ret.creds = p.ret.creds := by rw [ret, (latch_spec p g).2]
  have calls : (p.refreshGroup g).main.calls = p.main.calls := by rw [main]
  have tickets : (p.refreshGroup g).main.tickets = p.main.tickets := by rw [main]
  have drops : (p.refreshGroup g).main.drops = p.main.drops := by rw [main]
  exact {
    latches := fun k _ => refreshGroup_latches_at place k
    modes := refreshGroup_settled place
    others := refreshGroup_others
    frames := frames
    calls := by simp [calls, calm]
    release := fun b => by
      rw [Part.cred, creds, endedCalls_of_calm calm]
      simp [Part.cred]
    tickets := by simp [tickets, calm, endedCalls_of_calm calm]
    answers := fun i => by
      rw [Part.drop, drops, endedCalls_of_calm calm]
      simp [Part.drop]
    calm := fun _ => ⟨creds, tickets, drops⟩
    quiet := fun same => quiet (same g List.mem_cons_self)
    ret := (refreshGroup_frame p g).1
    main := (refreshGroup_frame p g).2 }

theorem askedFrames_of_same (same : q.mode g = p.mode g) : askedFrames [g] p q = [] := by simp [askedFrames, same]

theorem askedFrames_of_change (change : q.mode g ≠ p.mode g) : askedFrames [g] p q =
    .modeNotice (byte g) (q.mode g) ((Table.lookup p.ret.groups g).map GroupEntry.recallLanding) ::
      ((endedCalls p q).filter fun e => decide (e.2.group.toNat = g)).map fun e => .callCancel e.2.number := by
  simp [askedFrames, change]

theorem byte_eq_iff (place : g < 8) (x : Byte) : x = byte g ↔ x.toNat = g := by
  rw [← BitVec.toNat_inj, byte_toNat (by omega)]

theorem settledTicket_group {now : Nat} {t u : Ticket} (kept : settledTicket now t = some u) : u.group = t.group := by
  unfold settledTicket at kept
  cases state : t.state with
  | pending l =>
    rw [state] at kept
    cases kept
  | issued e =>
    rw [state] at kept
    cases kept
    rfl
  | claimed e l =>
    rw [state] at kept
    dsimp only at kept
    split at kept
    · cases kept
    · cases kept
      rfl

/-- A ticket keeps its group through an ending, so that the tickets of a group may be taken out before or after it. -/
theorem settled_guard (now : Nat) (held : Bool) (x : Byte) (t : Ticket) :
    ((if held = true then settledTicket now t else some t).bind (Option.guard fun u => !decide (u.group = x))) =
      if t.group = x then none else if held = true then settledTicket now t else some t := by
  cases left : (if held = true then settledTicket now t else some t) with
  | none => exact (ite_self _).symm
  | some u =>
    have group : u.group = t.group := by
      cases held with
      | true => exact settledTicket_group left
      | false => exact congrArg Ticket.group (Option.some.inj left).symm
    rw [Option.bind_some, Option.guard, group, ← decide_not]
    by_cases same : t.group = x
    · rw [if_pos same, if_neg (by rw [decide_eq_true_eq]; exact not_not.2 same)]
    · rw [if_neg same, if_pos (decide_eq_true same)]

/-- A recomputing by which a group enters RECALL. -/
theorem recomputed_of_recall (sorted : Table.sorted p.main.calls) (place : g < 8)
    (recalled : (p.latch g).effectiveMode g = .recalled) (before : p.mode g ≠ .recalled) :
    Recomputed [g] p (p.refreshGroup g) := by
  have change : (p.latch g).effectiveMode g ≠ p.mode g := fun same => before (same.symm.trans recalled)
  have whole := (refreshGroup_of_change change).trans (if_pos recalled)
  have modeSelf : (p.refreshGroup g).mode g = .recalled := (refreshGroup_mode_self p g).trans recalled
  have enters : ∀ n, entersRecall p (p.refreshGroup g) n = decide (n = g) := fun n => by
    by_cases same : n = g
    · rw [same, entersRecall, modeSelf, decide_eq_true before, decide_eq_true rfl, decide_eq_true rfl]
      rfl
    · rw [entersRecall_eq_false_of_same (refreshGroup_mode_ne p same), decide_eq_false same]
  have main := noticed_main p g
  have calls : (noticed p g).main.calls = p.main.calls := by rw [main]
  have ended : (noticed p g).main.calls.filter (fun e => decide (e.2.group = byte g)) = endedCalls p (p.refreshGroup g) := by
    rw [calls]
    exact List.filter_congr fun e _ => (decide_eq_decide.2 (byte_eq_iff place _)).trans (enters _).symm
  have cancelled : (noticed p g).cancelCalls g = (endedCalls p (p.refreshGroup g)).foldl Part.cancelCall (noticed p g) := by
    rw [Part.cancelCalls, ended]
  have creds : (noticed p g).ret.creds = p.ret.creds := by rw [noticed_ret, (latch_spec p g).2]
  have unwound : UnwoundAll .cancelled (endedCalls p (p.refreshGroup g)) p ((noticed p g).cancelCalls g) := by
    rw [cancelled]
    exact (unwoundAll_cancelFold _ (noticed p g)).congr creds.symm (by rw [main]) (by rw [main]) (by rw [main]) rfl rfl rfl
  exact {
    latches := fun k _ => refreshGroup_latches_at place k
    modes := refreshGroup_settled place
    others := refreshGroup_others
    frames := fun room => by
      have room' : (noticed p g).main.sendQueue.length ≤ 64 := by
        rw [noticed_queue p g room, List.length_take]
        exact Nat.min_le_left _ _
      have all : (endedCalls p (p.refreshGroup g)).filter (fun e => decide (e.2.group.toNat = g)) =
          endedCalls p (p.refreshGroup g) := List.filter_eq_self.2 fun e mem =>
        (enters _).symm.trans (List.mem_filter.1 mem).2
      have queue : (p.refreshGroup g).main.sendQueue = ((noticed p g).cancelCalls g).main.sendQueue := by rw [whole]; rfl
      rw [askedFrames_of_change (fun same => before (same.symm.trans modeSelf)), all, modeSelf, queue, cancelled,
        cancelFold_queue _ _ room', noticed_queue p g room, take_append_take, recalled]
      rfl
    calls := by
      have erased : (p.refreshGroup g).main.calls = ((noticed p g).cancelCalls g).main.calls := by rw [whole]; rfl
      rw [erased, cancelled, cancelFold_calls, calls]
      exact foldl_erase_filter sorted _
    release := fun b => by
      have cred : (p.refreshGroup g).cred b = ((noticed p g).cancelCalls g).cred b := by rw [whole]; rfl
      exact cred.trans (unwound.release b)
    tickets := by
      have removed : (p.refreshGroup g).main.tickets =
          ((noticed p g).cancelCalls g).main.tickets.filter fun t => !decide (t.group = byte g) := by rw [whole]; rfl
      rw [removed, unwound.tickets, ← List.filterMap_eq_filter, List.filterMap_filterMap]
      refine List.filterMap_congr fun t _ => ?_
      rw [settled_guard, enters, heldBy_endedCalls]
      exact if_congr ((byte_eq_iff place _).trans (decide_eq_true_iff).symm) rfl rfl
    answers := fun i => by
      have drop : (p.refreshGroup g).drop i = ((noticed p g).cancelCalls g).drop i := by rw [whole]; rfl
      exact drop.trans (unwound.answers i)
    calm := fun none' => by
      have entered := none' g List.mem_cons_self
      rw [enters, decide_eq_true rfl] at entered
      cases entered
    quiet := fun same => absurd ((same g List.mem_cons_self).symm.trans modeSelf) before
    ret := (refreshGroup_frame p g).1
    main := (refreshGroup_frame p g).2 }

theorem recomputed_refreshGroup (sorted : Table.sorted p.main.calls) (place : g < 8) :
    Recomputed [g] p (p.refreshGroup g) := by
  by_cases same : (p.latch g).effectiveMode g = p.mode g
  · have whole := refreshGroup_of_same same
    have main : (p.refreshGroup g).main = p.main := by rw [whole, (latch_spec p g).1]
    have modes : ∀ n, (p.refreshGroup g).mode n = p.mode n := fun n => by rw [whole, mode_latch]
    refine recomputed_of_calm place (fun n => entersRecall_eq_false_of_same (modes n)) (by rw [whole]) (by rw [main])
      (fun room => ?_) fun _ => main
    rw [askedFrames_of_same (modes g), main, List.append_nil, List.take_of_length_le room]
  · by_cases recalled : (p.latch g).effectiveMode g = .recalled
    · exact recomputed_of_recall sorted place recalled fun before => same (recalled.trans before.symm)
    · have whole := (refreshGroup_of_change same).trans (if_neg recalled)
      have mode : (p.refreshGroup g).mode g = (p.latch g).effectiveMode g := refreshGroup_mode_self p g
      have calm : ∀ n, entersRecall p (p.refreshGroup g) n = false := fun n => by
        by_cases here : n = g
        · rw [here, entersRecall, mode, decide_eq_false recalled, Bool.and_false]
        · exact entersRecall_eq_false_of_same (refreshGroup_mode_ne p here)
      refine recomputed_of_calm place calm (by rw [whole, noticed_ret]) ?_ (fun room => ?_) fun before =>
        absurd (mode.symm.trans before) same
      · have modes := congrArg Main.modes (noticed_main p g)
        rw [whole, modes]
        exact noticed_main p g
      · rw [askedFrames_of_change (fun before => same (mode.symm.trans before)), endedCalls_of_calm calm, mode, whole]
        exact noticed_queue p g room

end

end Sys2Proof.Laws
end

section
/-! SUPPORT. Groups recomputed one after the other come to one recomputing of them all (log 21), and the statements on
alarm lines, demands and modes (chapter 9). -/

namespace Sys2Proof.Laws

open Sys2Proof.Machine Sys2Proof.Safety

section
variable {p q r : Part} {g : Nat} {gs : List Nat}

/-! ## Two recomputings in turn -/

theorem endedCalls_eq (p q : Part) : endedCalls p q = p.main.calls.filter fun e => entersRecall p q e.2.group.toNat := rfl

theorem any_filter_or {α : Type} (l : List α) (a b f : α → Bool) :
    (l.filter fun x => a x || b x).any f = ((l.filter a).any f || (l.filter b).any f) := by
  simp only [List.any_filter]
  induction l with
  | nil => rfl
  | cons x l ih =>
    rw [List.any_cons, List.any_cons, List.any_cons, ih]
    cases a x <;> cases b x <;> cases f x <;> simp

/-- The entries a list has of two tests that no entry meets both, each told the same. -/
theorem map_const_filter_or {α β : Type} {l : List α} {a b : α → Bool} (apart : ∀ x ∈ l, (a x && b x) = false)
    (f : α → Bool) (v : β) : ((l.filter fun x => a x || b x).filter f).map (fun _ => v) =
      ((l.filter a).filter f).map (fun _ => v) ++ ((l.filter b).filter f).map fun _ => v := by
  simp only [List.map_const', List.replicate_append_replicate, List.filter_filter, ← List.countP_eq_length_filter]
  congr 1
  induction l with
  | nil => rfl
  | cons x l ih =>
    obtain ⟨first, apart⟩ := List.forall_mem_cons.1 apart
    rw [List.countP_cons, List.countP_cons, List.countP_cons, ih apart]
    cases one : a x <;> cases two : b x <;> cases f x <;> simp_all <;> omega

/-- What two recomputings in turn, of one group and of others, know of the groups that enter RECALL. -/
structure InTurn (p q r : Part) : Prop where
  either : ∀ n, entersRecall p r n = (entersRecall p q n || entersRecall q r n)
  apart : ∀ n, (entersRecall p q n && entersRecall q r n) = false
  calls : q.main.calls = p.main.calls.filter fun e => !entersRecall p q e.2.group.toNat
  now : q.main.now = p.main.now

theorem InTurn.later (h : InTurn p q r) : endedCalls q r = p.main.calls.filter fun e => entersRecall q r e.2.group.toNat := by
  rw [endedCalls_eq, h.calls, List.filter_filter]
  refine List.filter_congr fun e _ => ?_
  have apart := h.apart e.2.group.toNat
  cases one : entersRecall p q e.2.group.toNat with
  | false => exact Bool.and_true _
  | true =>
    rw [one, Bool.true_and] at apart
    rw [apart]
    rfl

theorem InTurn.ended (h : InTurn p q r) : endedCalls p r = p.main.calls.filter fun e =>
    entersRecall p q e.2.group.toNat || entersRecall q r e.2.group.toNat := by
  rw [endedCalls_eq]
  exact List.filter_congr fun e _ => h.either _

theorem InTurn.any_ended (h : InTurn p q r) (f : Nat × Call → Bool) :
    (endedCalls p r).any f = ((endedCalls p q).any f || (endedCalls q r).any f) := by
  rw [h.ended, h.later, any_filter_or]
  rfl

theorem InTurn.told (h : InTurn p q r) (i : Nat) : toldOf .cancelled (endedCalls p r) i =
    toldOf .cancelled (endedCalls p q) i ++ toldOf .cancelled (endedCalls q r) i := by
  rw [h.ended, h.later]
  exact map_const_filter_or (fun (e : Nat × Call) _ => h.apart e.2.group.toNat) (fun e => decide (e.2.drop = i)) _

/-- What a recomputing leaves of a ticket. -/
def sweptTicket (p q : Part) (t : Ticket) : Option Ticket :=
  if entersRecall p q t.group.toNat = true then none
  else if heldBy (endedCalls p q) t = true then settledTicket p.main.now t else some t

theorem recomputed_tickets (h : Recomputed gs p q) : q.main.tickets = p.main.tickets.filterMap (sweptTicket p q) := h.tickets

theorem sweptTicket_issued (t : Ticket) (n : Nat) : sweptTicket p q { t with state := .issued n } =
    if entersRecall p q t.group.toNat = true then none else some { t with state := .issued n } := by
  rw [sweptTicket, heldBy_issued]
  rfl

theorem settledTicket_swept (now : Nat) (t : Ticket) : (settledTicket now t).bind (sweptTicket p q) =
    if entersRecall p q t.group.toNat = true then none else settledTicket now t := by
  unfold settledTicket
  cases t.state with
  | pending l => exact (ite_self _).symm
  | issued n => exact sweptTicket_issued t n
  | claimed n l =>
    dsimp only
    split
    · exact (ite_self _).symm
    · exact sweptTicket_issued t n

theorem InTurn.swept (h : InTurn p q r) (t : Ticket) : (sweptTicket p q t).bind (sweptTicket q r) = sweptTicket p r t := by
  have held : heldBy (endedCalls p r) t = (heldBy (endedCalls p q) t || heldBy (endedCalls q r) t) := h.any_ended _
  unfold sweptTicket
  rw [h.either, held]
  cases first : entersRecall p q t.group.toNat with
  | true => rfl
  | false =>
    rw [Bool.false_or, if_neg Bool.false_ne_true]
    cases heldBy (endedCalls p q) t with
    | true =>
      rw [Bool.true_or, if_pos rfl]
      exact settledTicket_swept p.main.now t
    | false =>
      rw [Bool.false_or, if_neg Bool.false_ne_true, Option.bind_some, h.now]

/-! ## Groups recomputed in turn -/

theorem refreshFold_mode (l : List Nat) (p : Part) {n : Nat} (other : n ∉ l) :
    (l.foldl Part.refreshGroup p).mode n = p.mode n := by
  induction l generalizing p with
  | nil => rfl
  | cons g l ih =>
    obtain ⟨first, later⟩ := not_or.1 (mt List.mem_cons.2 other)
    exact (ih (p.refreshGroup g) later).trans (refreshGroup_mode_ne p first)

theorem inTurn_refreshGroup (sorted : Table.sorted p.main.calls) (place : g < 8) (fresh : g ∉ gs) :
    InTurn p (p.refreshGroup g) (gs.foldl Part.refreshGroup (p.refreshGroup g)) := by
  have first : ∀ n, n ≠ g → (p.refreshGroup g).mode n = p.mode n := fun n other => refreshGroup_mode_ne p other
  have later : (gs.foldl Part.refreshGroup (p.refreshGroup g)).mode g = (p.refreshGroup g).mode g := refreshFold_mode gs _ fresh
  refine ⟨fun n => ?_, fun n => ?_, (recomputed_refreshGroup sorted place).calls, by rw [(refreshGroup_frame p g).2]⟩
  · by_cases same : n = g
    · rw [same, entersRecall_eq_false_of_same later, Bool.or_false, entersRecall, later, entersRecall]
    · rw [entersRecall_eq_false_of_same (first n same), Bool.false_or, entersRecall, ← first n same, entersRecall]
  · by_cases same : n = g
    · rw [same, entersRecall_eq_false_of_same later, Bool.and_false]
    · rw [entersRecall_eq_false_of_same (first n same), Bool.false_and]

theorem refreshFold_holds (l : List Nat) (p : Part) (k : Nat) (m : Mode) :
    (l.foldl Part.refreshGroup p).holds k m = p.holds k m := by
  induction l generalizing p with
  | nil => rfl
  | cons g l ih => exact (ih _).trans (refreshGroup_holds p g k m)

theorem recomputed_nil (p : Part) : Recomputed [] p p := by
  have calm : ∀ n, entersRecall p p n = false := fun n => entersRecall_eq_false_of_same rfl
  exact {
    latches := fun g _ => by simp
    modes := fun g mem => absurd mem List.not_mem_nil
    others := fun _ _ _ => rfl
    frames := fun room => by simp [askedFrames, List.take_of_length_le room]
    calls := by simp [calm]
    release := fun b => by simp [endedCalls_of_calm calm]
    tickets := by simp [calm, endedCalls_of_calm calm]
    answers := fun i => by simp [endedCalls_of_calm calm]
    calm := fun _ => ⟨rfl, rfl, rfl⟩
    quiet := fun _ => rfl
    ret := rfl
    main := rfl }

/-- The frames of two recomputings in turn. -/
theorem InTurn.asked (h : InTurn p q r) (first : ∀ n, n ≠ g → q.mode n = p.mode n) (later : r.mode g = q.mode g)
    (groups : q.ret.groups = p.ret.groups) (fresh : g ∉ gs) :
    askedFrames (g :: gs) p r = askedFrames [g] p q ++ askedFrames gs q r := by
  have ended : ∀ n, (n = g → ((endedCalls p r).filter fun e => decide (e.2.group.toNat = n)) =
        (endedCalls p q).filter fun e => decide (e.2.group.toNat = n)) ∧
      (n ≠ g → ((endedCalls p r).filter fun e => decide (e.2.group.toNat = n)) =
        (endedCalls q r).filter fun e => decide (e.2.group.toNat = n)) := by
    intro n
    rw [h.ended, h.later, endedCalls_eq, List.filter_filter, List.filter_filter, List.filter_filter]
    refine ⟨fun same => List.filter_congr fun e _ => ?_, fun other => List.filter_congr fun e _ => ?_⟩
    · by_cases here : e.2.group.toNat = n
      · rw [here, same, entersRecall_eq_false_of_same later, Bool.or_false]
      · rw [decide_eq_false here, Bool.false_and, Bool.false_and]
    · by_cases here : e.2.group.toNat = n
      · rw [here, entersRecall_eq_false_of_same (first n other), Bool.false_or]
      · rw [decide_eq_false here, Bool.false_and, Bool.false_and]
  have rest : askedFrames gs p r = askedFrames gs q r := by
    have apart : ∀ n ∈ gs, n ≠ g := fun n mem same => fresh (same ▸ mem)
    have changed : (gs.filter fun n => decide (r.mode n ≠ p.mode n)) = gs.filter fun n => decide (r.mode n ≠ q.mode n) :=
      List.filter_congr fun n mem => by rw [first n (apart n mem)]
    unfold askedFrames
    rw [changed, groups]
    refine List.flatMap_congr fun n mem => ?_
    rw [(ended n).2 (apart n (List.mem_filter.1 mem).1)]
  have one : askedFrames [g] p r = askedFrames [g] p q := by
    have changed : ([g].filter fun n => decide (r.mode n ≠ p.mode n)) = [g].filter fun n => decide (q.mode n ≠ p.mode n) :=
      List.filter_congr fun n mem => by rw [List.mem_singleton.1 mem, later]
    unfold askedFrames
    rw [changed]
    refine List.flatMap_congr fun n mem => ?_
    obtain rfl : n = g := List.mem_singleton.1 (List.mem_filter.1 mem).1
    rw [(ended n).1 rfl, later]
  rw [← one, ← rest]
  unfold askedFrames
  rw [← List.flatMap_append, ← List.filter_append]
  rfl

theorem recomputed_cons (sorted : Table.sorted p.main.calls) (place : g < 8) (fresh : g ∉ gs)
    (rest : Recomputed gs (p.refreshGroup g) (gs.foldl Part.refreshGroup (p.refreshGroup g))) :
    Recomputed (g :: gs) p (gs.foldl Part.refreshGroup (p.refreshGroup g)) := by
  have one := recomputed_refreshGroup sorted place
  have turn := inTurn_refreshGroup sorted place fresh
  have first : ∀ n, n ≠ g → (p.refreshGroup g).mode n = p.mode n := fun n other => refreshGroup_mode_ne p other
  have later : (gs.foldl Part.refreshGroup (p.refreshGroup g)).mode g = (p.refreshGroup g).mode g := refreshFold_mode gs _ fresh
  have holds := refreshFold_holds gs (p.refreshGroup g)
  have renewed := refreshGroup_holds p g
  have groups : (p.refreshGroup g).ret.groups = p.ret.groups := by rw [(refreshGroup_frame p g).1]
  have frame := refreshFold_frame p (g :: gs)
  rw [List.foldl_cons] at frame
  generalize gs.foldl Part.refreshGroup (p.refreshGroup g) = r at *
  exact {
    latches := fun k listed => by
      rw [rest.latches k listed, one.latches k listed, renewed, Bool.or_assoc, ← Bool.and_or_distrib_right,
        ← Bool.decide_or]
      simp
    modes := fun k mem => by
      rcases List.mem_cons.1 mem with rfl | mem
      · rw [later, one.modes k List.mem_cons_self]
        refine (effectiveMode_congr ?_ (holds k)).symm
        rw [rest.latches k (mem_eight.2 place), decide_eq_false fresh, Bool.false_and, Bool.or_false]
      · exact rest.modes k mem
    others := fun k listed other => by
      obtain ⟨apart, other⟩ := not_or.1 (mt List.mem_cons.2 other)
      exact (rest.others k listed other).trans (first k apart)
    frames := fun room => by
      have queue := one.frames room
      have room' : (p.refreshGroup g).main.sendQueue.length ≤ 64 := by
        rw [queue, List.length_take]
        exact Nat.min_le_left _ _
      rw [rest.frames room', queue, take_append_take, turn.asked first later groups fresh]
    calls := by
      rw [rest.calls, one.calls, List.filter_filter]
      refine List.filter_congr fun e _ => ?_
      rw [turn.either, Bool.not_or, Bool.and_comm]
    release := fun b => by
      rw [rest.release, one.release, Option.map_map]
      refine congrArg (fun f => Option.map f (p.cred b)) (funext fun c => ?_)
      rw [Function.comp_apply, turn.any_ended]
      cases (endedCalls p (p.refreshGroup g)).any fun e => e.2.charge && decide (e.2.badge = some b) <;>
        cases (endedCalls (p.refreshGroup g) r).any fun e => e.2.charge && decide (e.2.badge = some b) <;> rfl
    tickets := by
      rw [recomputed_tickets rest, recomputed_tickets one, List.filterMap_filterMap]
      exact congrArg (fun f => List.filterMap f p.main.tickets) (funext turn.swept)
    answers := fun i => by
      have told := turn.told i
      unfold toldOf at told
      rw [rest.answers, one.answers, told]
      by_cases up : (p.drop i).state = .up
      · rw [if_pos up, if_pos up, if_pos up, List.append_assoc]
      · rw [if_neg up, if_neg up, if_neg up]
    calm := fun calm => by
      have apart : ∀ k ∈ g :: gs, entersRecall p (p.refreshGroup g) k = false ∧ entersRecall (p.refreshGroup g) r k = false :=
        fun k mem => Bool.or_eq_false_iff.1 ((turn.either k).symm.trans (calm k mem))
      obtain ⟨creds, tickets, drops⟩ := one.calm fun k mem => (apart k (List.mem_singleton.1 mem ▸ List.mem_cons_self)).1
      obtain ⟨creds', tickets', drops'⟩ := rest.calm fun k mem => (apart k (List.mem_cons_of_mem g mem)).2
      exact ⟨creds'.trans creds, tickets'.trans tickets, drops'.trans drops⟩
    quiet := fun same => by
      have self : (p.refreshGroup g).mode g = p.mode g := later.symm.trans (same g List.mem_cons_self)
      refine (rest.quiet fun k mem => ?_).trans (one.quiet fun k mem => ?_)
      · exact (same k (List.mem_cons_of_mem g mem)).trans (first k fun here => fresh (here ▸ mem)).symm
      · rw [List.mem_singleton.1 mem]
        exact self
    ret := frame.1
    main := frame.2 }

theorem recomputed_foldl (sorted : Table.sorted p.main.calls) (places : ∀ k ∈ gs, k < 8) (nodup : gs.Nodup) :
    Recomputed gs p (gs.foldl Part.refreshGroup p) := by
  induction gs generalizing p with
  | nil => exact recomputed_nil p
  | cons g gs ih =>
    obtain ⟨fresh, nodup⟩ := List.nodup_cons.1 nodup
    obtain ⟨place, places⟩ := List.forall_mem_cons.1 places
    have sorted' : Table.sorted (p.refreshGroup g).main.calls := by
      rw [(recomputed_refreshGroup sorted place).calls]
      exact sorted.filter _
    exact recomputed_cons sorted place fresh (ih sorted' places nodup)

/-- Every group recomputed. -/
theorem recomputed_refreshAll (sorted : Table.sorted p.main.calls) : Recomputed eight p p.refreshAll :=
  recomputed_foldl sorted (fun _ => mem_eight.1) (by decide)

end

end Sys2Proof.Laws
end

section
/-! SUPPORT. The statements on alarm lines, demands and modes (chapter 9). -/

namespace Sys2Proof.Laws

open Sys2Proof.Machine Sys2Proof.Safety

/-! ## Tables set to what they hold -/

theorem put_of_lookup {α : Type} {t : Table α} (sorted : Table.sorted t) {n : Nat} {v : α} (found : Table.lookup t n = some v) :
    Table.put t n v = t := by
  induction t with
  | nil => cases found
  | cons e t ih =>
    obtain ⟨k, w⟩ := e
    obtain ⟨first, sorted⟩ := List.pairwise_cons.1 sorted
    rw [lookup_cons] at found
    unfold Table.put
    by_cases same : n = k
    · rw [if_pos same] at found
      rw [if_neg (by omega), if_pos same, same, Option.some.inj found]
    · rw [if_neg same] at found
      have later : k < n := first (n, v) (mem_of_lookup found)
      rw [if_neg (by omega), if_neg same, ih sorted found]

theorem set_get_self {α : Type} [DecidableEq α] {d : α} {t : Table α} (canonical : Table.canonical d t) (n : Nat) :
    Table.set d t n (Table.get d t n) = t := by
  cases found : Table.lookup t n with
  | none =>
    have absent : Table.get d t n = d := by rw [Table.get, found]; rfl
    rw [absent, Table.set, if_pos rfl, Table.erase]
    refine List.filter_eq_self.2 fun e mem => decide_eq_true fun same => ?_
    have there := lookup_of_mem canonical.1 mem
    rw [same, found] at there
    cases there
  | some v =>
    have other : v ≠ d := canonical.2 _ (mem_of_lookup found)
    rw [get_of_lookup found, Table.set, if_neg other, put_of_lookup canonical.1 found]

section
variable {p q : Part} {s : State} {m : Main} {kind tag : Byte} {c : Instr} {α : Type} {f : α} {act : α → Part → Taken}

theorem exec_done (arm : exec c s = command kind tag (.read f) act s) (ready : Ready s m) {results : Results}
    (took : act f (partOf s (listening m)) = done q results) :
    exec c s = .next (s.withPart (q.reply ⟨kind, tag, .done, results⟩)) := by
  have taken := command_listening ready f act kind tag
  rw [took] at taken
  exact arm.trans taken

theorem sorted_calls (tables : MainTables m) : Table.sorted m.calls := by
  obtain ⟨-, ⟨sorted, -⟩, -⟩ := tables
  exact sorted

theorem canonical_lines (tables : MainTables m) : Table.canonical .quiet m.lines := by
  obtain ⟨-, -, -, -, ⟨canonical, -⟩, -⟩ := tables
  exact canonical

/-! ## Statuses of lines (R170, R172) -/

theorem inSet_setStatus (p : Part) {n k : Nat} (small : k < 8) :
    inSet (p.setStatus n).ret.lineStatus k = (inSet p.ret.lineStatus k || decide (k = n)) := by
  by_cases same : k = n
  · subst same
    rw [decide_eq_true rfl, Bool.or_true]
    exact inSet_setPut_self small _ _
  · rw [decide_eq_false same, Bool.or_false]
    exact inSet_setPut_ne same _ _

/-! ## Demands (R174, R175) -/

theorem lineDemand_iff {p : Part} {n : Nat} {mode : Mode} {gs : Set8} : p.lineDemand n = some (mode, gs) ↔
    (p.lineConfig n).enabled = true ∧ inSet p.ret.lineStatus n = true ∧ (p.lineConfig n).function = .demand mode gs := by
  unfold Part.lineDemand
  cases (p.lineConfig n).enabled with
  | false => simp
  | true =>
    cases inSet p.ret.lineStatus n with
    | false => simp
    | true => cases (p.lineConfig n).function <;> simp

theorem lineHolds_iff {p : Part} {n g : Nat} {mode : Mode} :
    p.lineHolds n g mode = true ↔ ∃ gs, p.lineDemand n = some (mode, gs) ∧ inSet gs g = true := by
  unfold Part.lineHolds
  cases p.lineDemand n with
  | none => simp
  | some d =>
    obtain ⟨mode', gs⟩ := d
    dsimp only
    rw [Bool.and_eq_true, decide_eq_true_eq]
    constructor
    · rintro ⟨rfl, within⟩
      exact ⟨gs, rfl, within⟩
    · rintro ⟨gs', same, within⟩
      cases same
      exact ⟨rfl, within⟩

theorem holds_iff {p : Part} {g : Nat} {mode : Mode} : p.holds g mode = true ↔ (p.marksOf g).has mode = true ∨
    ∃ n < 8, (p.lineConfig n).enabled = true ∧ inSet p.ret.lineStatus n = true ∧
      ∃ gs, (p.lineConfig n).function = .demand mode gs ∧ inSet gs g = true := by
  rw [Part.holds, Bool.or_eq_true, List.any_eq_true]
  refine or_congr_right (exists_congr fun n => and_congr mem_eight (lineHolds_iff.trans ?_))
  constructor
  · rintro ⟨gs, demand, within⟩
    obtain ⟨enabled, status, function⟩ := lineDemand_iff.1 demand
    exact ⟨enabled, status, gs, function, within⟩
  · rintro ⟨enabled, status, gs, function, within⟩
    exact ⟨gs, lineDemand_iff.2 ⟨enabled, status, function⟩, within⟩

theorem demandMode_ne_normal {code : Byte} {mode : Mode} (demand : demandMode code = some mode) : mode ≠ .normal := by
  unfold demandMode at demand
  split at demand <;> cases demand <;> decide

theorem has_put_self (k : Marks) {mode : Mode} (demand : mode ≠ .normal) (on : Bool) : (k.put mode on).has mode = on := by
  cases mode with
  | normal => exact absurd rfl demand
  | opened => rfl
  | lockdown => rfl
  | recalled => rfl

theorem has_put_ne (k : Marks) {mode other : Mode} (apart : other ≠ mode) (on : Bool) :
    (k.put mode on).has other = k.has other := by
  cases mode with
  | normal => rfl
  | opened =>
    cases other with
    | normal => rfl
    | opened => exact absurd rfl apart
    | lockdown => rfl
    | recalled => rfl
  | lockdown =>
    cases other with
    | normal => rfl
    | opened => rfl
    | lockdown => exact absurd rfl apart
    | recalled => rfl
  | recalled =>
    cases other with
    | normal => rfl
    | opened => rfl
    | lockdown => rfl
    | recalled => exact absurd rfl apart

theorem marksOf_setMark_self (p : Part) (g : Nat) (mode : Mode) (on : Bool) :
    (p.setMark g mode on).marksOf g = (p.marksOf g).put mode on := get_set_self _ _ _ _

theorem marksOf_setMark_ne (p : Part) {g n : Nat} (other : n ≠ g) (mode : Mode) (on : Bool) :
    (p.setMark g mode on).marksOf n = p.marksOf n := get_set_ne _ _ _ _ _ other

theorem takeModeDemand_eq (p : Part) {g code on : Byte} (place : g.toNat < 8) {mode : Mode} {value : Bool}
    (demand : demandMode code = some mode) (flag : flagOfCode on = some value) : takeModeDemand ⟨g, code, on⟩ p =
      done ((p.setMark g.toNat mode value).refreshGroup g.toNat)
        (.mode (((p.setMark g.toNat mode value).refreshGroup g.toNat).mode g.toNat)) := by
  have ok : groupOk g = true := (groupOk_iff g).2 place
  simp only [takeModeDemand, ok, demand, flag]
  rfl

theorem entersRecall_refreshGroup {p : Part} {g : Nat} (before : p.mode g ≠ .recalled)
    (after : (p.refreshGroup g).mode g = .recalled) (n : Nat) : entersRecall p (p.refreshGroup g) n = decide (n = g) := by
  by_cases same : n = g
  · rw [same, entersRecall, after, decide_eq_true before, decide_eq_true rfl, decide_eq_true rfl]
    rfl
  · rw [entersRecall_eq_false_of_same (refreshGroup_mode_ne p same), decide_eq_false same]

theorem effectiveMode_of_latched {p : Part} {g : Nat} (latched : inSet p.ret.latches g = true) :
    p.effectiveMode g = .recalled := if_pos latched

theorem effectiveMode_of_unlatched {p : Part} {g : Nat} (clear : inSet p.ret.latches g = false) : p.effectiveMode g =
    if p.holds g .recalled = true then .recalled else if p.holds g .lockdown = true then .lockdown
    else if p.holds g .opened = true then .opened else .normal := if_neg (by rw [clear]; exact Bool.false_ne_true)

theorem debounced_eq (p : Part) (n : Nat) (raw : Bool) : p.debounced n raw =
    if p.lineActive n = false ∧ (p.setLine n ⟨raw, raw, none⟩).lineActive n = true then
      ((p.setLine n ⟨raw, raw, none⟩).setStatus n).refreshAll
    else p.setLine n ⟨raw, raw, none⟩ := by
  refine if_congr ?_ rfl rfl
  rw [Bool.and_eq_true, Bool.not_eq_true']

end

end Sys2Proof.Laws

namespace Sys2Proof.Proofs

open Sys2Proof.Machine Sys2Proof.Safety Sys2Proof.Laws

/-- Settles O28: a status is set or cleared first, and then every group is recomputed. -/
theorem alarmLinesAreSetAndAcknowledged : Obligations.AlarmLinesAreSetAndAcknowledged := by
  intro s m tag ready tables
  have sorted := sorted_calls tables
  let p := partOf s (listening m)
  refine ⟨fun f c config => ?_, fun f bad => ?_, fun set => ?_⟩
  · let n := f.line.toNat
    let put := p.putLineConfig n c
    have took : takeAlarmSet f p = done (if p.setRaises put n then put.setStatus n else put).refreshAll .nothing := by
      rw [takeAlarmSet, config]
      rfl
    have self : put.lineConfig n = c := get_set_self _ _ _ _
    have raises : p.setRaises put n = (put.lineActive n && (!Part.lineActive (partOf s m) n ||
        (decide ((Part.lineConfig (partOf s m) n).type = .edge) && decide (c.type = .level)))) := by
      rw [Part.setRaises, self]
      rfl
    refine ⟨_, _, exec_done (exec_alarmSet tag _ s) ready took, recomputed_refreshAll ?_, ?_, ?_, ?_, fun k other => ?_,
      fun k small => ?_⟩
    all_goals cases raised : p.setRaises put n
    · exact sorted
    · exact sorted
    · rfl
    · rfl
    · rfl
    · rfl
    · exact self
    · exact self
    · exact get_set_ne _ _ _ _ _ other
    · exact get_set_ne _ _ _ _ _ other
    · rw [raises] at raised
      by_cases same : k = n
      · subst same
        change inSet s.ret.lineStatus n = (_ || decide (n = n) && put.lineActive n && _)
        rw [decide_eq_true rfl, Bool.true_and, raised, Bool.or_false]
      · rw [decide_eq_false same, Bool.false_and, Bool.false_and, Bool.or_false]
        rfl
    · rw [raises] at raised
      refine (inSet_setStatus put small).trans (congrArg (inSet s.ret.lineStatus k || ·) ?_)
      by_cases same : k = n
      · subst same
        change decide (n = n) = (decide (n = n) && put.lineActive n && _)
        rw [decide_eq_true rfl, Bool.true_and, raised]
      · rw [decide_eq_false same, Bool.false_and, Bool.false_and]
  · exact refusedWith_of (exec_alarmSet tag _ s) ready (by rw [takeAlarmSet, bad])
  · have took : takeAlarmAck set p = done (p.withLineStatus (p.ackedStatus set)).refreshAll
        (.lineStatuses (p.ackedStatus set)) := by
      have kept : (p.withLineStatus (p.ackedStatus set)).refreshAll.ret.lineStatus = p.ackedStatus set := by
        rw [(refreshAll_frame _).1]
        rfl
      rw [takeAlarmAck, kept]
    exact ⟨p.withLineStatus (p.ackedStatus set), (p.withLineStatus (p.ackedStatus set)).refreshAll,
      exec_done (exec_alarmAck tag _ s) ready took, recomputed_refreshAll sorted, rfl, rfl, fun n small =>
        inSet_bitsOf small fun n => if inSet set n then p.holdsStatus n else inSet p.ret.lineStatus n⟩

/-- Settles O29: a mark is set or a latch cleared, and the one group recomputed. -/
theorem demandsAndResume : Obligations.DemandsAndResume := by
  refine ⟨fun s m tag g ready tables place => ?_, fun s m tag g ready => ⟨fun code on bad => ?_, fun late => ?_⟩⟩
  · have sorted := sorted_calls tables
    let p := partOf s (listening m)
    have ok : groupOk g = true := (groupOk_iff g).2 place
    refine ⟨fun code on mode value demand flag => ?_, fun held => ?_, fun free clear => ?_, fun free latched => ?_⟩
    · exact ⟨p.setMark g.toNat mode value, _, exec_done (exec_modeDemand tag _ s) ready
        (takeModeDemand_eq p place demand flag), recomputed_refreshGroup sorted place, rfl, rfl, by
          rw [marksOf_setMark_self, has_put_self _ (demandMode_ne_normal demand)],
        fun k other => by rw [marksOf_setMark_self, has_put_ne _ other]; rfl,
        fun n other => marksOf_setMark_ne p other _ _⟩
    · have demand : p.holds g.toNat .recalled = true := held
      exact refusedWith_of (exec_groupResume tag _ s) ready (by rw [takeGroupResume, ok, demand]; rfl)
    · have demand : p.holds g.toNat .recalled = false := free
      have off : inSet p.ret.latches g.toNat = false := clear
      have kept : p.resume g.toNat = p := if_neg (by rw [off]; exact Bool.false_ne_true)
      exact doneWith_of (exec_groupResume tag _ s) ready (by rw [takeGroupResume, ok, demand, kept]; rfl) rfl rfl
    · have demand : p.holds g.toNat .recalled = false := free
      have on : inSet p.ret.latches g.toNat = true := latched
      let q := p.withLatches (setPut p.ret.latches g.toNat false)
      have released : p.resume g.toNat = q.refreshGroup g.toNat := if_pos on
      refine ⟨q, q.refreshGroup g.toNat, exec_done (exec_groupResume tag _ s) ready
        (by rw [takeGroupResume, ok, demand, released]; rfl), recomputed_refreshGroup sorted place, rfl, rfl, fun n small => ?_⟩
      by_cases same : n = g.toNat
      · rw [same, decide_eq_false (not_not.2 rfl), Bool.and_false]
        exact inSet_setPut_self place _ _
      · rw [decide_eq_true same, Bool.and_true]
        exact inSet_setPut_ne same _ _
  · refine refusedWith_of (exec_modeDemand tag _ s) ready ?_
    unfold takeModeDemand
    cases ok : groupOk g with
    | false => rfl
    | true =>
      rcases bad with late | none' | none'
      · rw [groupOk_eq_false late] at ok
        cases ok
      · simp only [none']
        rfl
      · simp only [none']
        cases demandMode code <;> rfl
  · exact refusedWith_of_failing (exec_groupResume tag _ s) ready (groupOk_eq_false late) rfl

/-- Settles O30: the demand latches the group, which so enters RECALL. -/
theorem recallDemandCancelsTheGroup : Obligations.RecallDemandCancelsTheGroup := by
  intro s m tag g ready inv place before room
  have lawful := (inv_running_iff ready.1).1 inv
  have sorted := sorted_calls lawful.main.tables
  let p := (partOf s (listening m)).setMark g.toNat .recalled true
  have one : Recomputed [g.toNat] p (p.refreshGroup g.toNat) :=
    recomputed_refreshGroup sorted place
  have held : p.holds g.toNat .recalled = true := by
    rw [Part.holds, marksOf_setMark_self]
    rfl
  have latched : inSet (p.refreshGroup g.toNat).ret.latches g.toNat = true := by
    rw [one.latches _ (mem_eight.2 place), held, decide_eq_true List.mem_cons_self]
    exact Bool.or_true _
  have after : (p.refreshGroup g.toNat).mode g.toNat = .recalled :=
    (one.modes _ List.mem_cons_self).trans (effectiveMode_of_latched latched)
  have enters := entersRecall_refreshGroup (p := p) (g := g.toNat) before after
  have names : ∀ x : Byte, x.toNat = g.toNat ↔ x = g := fun x => BitVec.toNat_inj
  have ended : endedCalls p (p.refreshGroup g.toNat) = m.calls.filter fun e => decide (e.2.group = g) :=
    List.filter_congr fun e _ => (enters _).trans (decide_eq_decide.2 (names _))
  refine ⟨p.refreshGroup g.toNat, ?_, after, latched, ?_, ?_, fun e mem group up => ?_, fun t mem => ?_, fun b => ?_⟩
  · have done := exec_done (exec_modeDemand tag _ s) ready (takeModeDemand_eq (partOf s (listening m)) place
      (code := 3) (on := 1) (mode := .recalled) (value := true) rfl rfl)
    rw [after] at done
    exact done
  · have all : (endedCalls p (p.refreshGroup g.toNat)).filter (fun e => decide (e.2.group.toNat = g.toNat)) =
        endedCalls p (p.refreshGroup g.toNat) := List.filter_eq_self.2 fun e mem =>
      (enters _).symm.trans (List.mem_filter.1 mem).2
    have asked := askedFrames_of_change (p := p) (q := p.refreshGroup g.toNat) (g := g.toNat)
      (fun same => before (same.symm.trans after))
    rw [all, ended, after, byte_of_toNat] at asked
    have queue := one.frames (show m.sendQueue.length ≤ 64 by omega)
    rw [asked] at queue
    refine queue.trans (List.take_of_length_le ?_)
    rw [List.length_append, List.length_cons, List.length_map]
    change m.sendQueue.length + _ ≤ 64
    omega
  · refine one.calls.trans (List.filter_congr fun e _ => ?_)
    rw [enters, ← decide_not]
    exact decide_eq_decide.2 (not_congr (names _))
  · have apart : (endedCalls p (p.refreshGroup g.toNat)).Pairwise fun a b => a.2.drop ≠ b.2.drop :=
      (lawful.main.calls.1.imp fun h => h.2.1).filter _
    have told := toldOf_apart (why := .cancelled) apart e.2.drop
    have named : ((endedCalls p (p.refreshGroup g.toNat)).any fun d => decide (d.2.drop = e.2.drop)) = true := by
      rw [ended]
      exact List.any_eq_true.2 ⟨e, List.mem_filter.2 ⟨mem, decide_eq_true group⟩, decide_eq_true rfl⟩
    rw [if_pos named] at told
    have answers := one.answers e.2.drop
    rw [if_pos (show (p.drop e.2.drop).state = .up from up)] at answers
    exact (congrArg DropLive.answers answers).trans (congrArg (_ ++ ·) told)
  · rw [recomputed_tickets one] at mem
    obtain ⟨u, -, kept⟩ := List.mem_filterMap.1 mem
    unfold sweptTicket at kept
    rw [enters] at kept
    split at kept
    · cases kept
    next stays =>
      have other : u.group ≠ g := fun same => stays (decide_eq_true (congrArg BitVec.toNat same))
      split at kept
      · rw [settledTicket_group kept]
        exact other
      · cases kept
        exact other
  · refine (one.release b).trans ?_
    rw [ended, List.any_filter]
    simp only [Bool.and_assoc]
    rfl

/-- Settles O31: by the four ways a raw level is taken, and the two a timer ends. -/
theorem lineLevelsAreDebounced : Obligations.LineLevelsAreDebounced := by
  intro s m n high l time running tables atLine atTime
  have sorted := sorted_calls tables
  let p := partOf s m
  have live : p.lineLive n.val = l := atLine.symm
  have debounce : (p.lineConfig n.val).debounce = time := atTime.symm
  have changed : exec (.rawLevelChange n high) s = .next (s.withPart (p.rawChange n.val high)) :=
    (exec_rawLevelChange n high s).trans (whileRunning_running running _)
  have ended : exec (.debounceEnd n) s = .next (s.withPart (p.endDebounce n.val)) :=
    (exec_debounceEnd n s).trans (whileRunning_running running _)
  have raised : ∀ level : Bool, ∃ p' q : Part, s.withPart (p.debounced n.val level) = s.withPart q ∧
      p'.main = { m with lines := Table.set .quiet m.lines n.val ⟨level, level, none⟩ } ∧
      (Part.lineActive (partOf s m) n.val = false ∧ p'.lineActive n.val = true →
        p'.ret = { s.ret with lineStatus := p'.ret.lineStatus } ∧
        (∀ k < 8, inSet p'.ret.lineStatus k = (inSet s.ret.lineStatus k || decide (k = n.val))) ∧ Recomputed eight p' q) ∧
      (¬(Part.lineActive (partOf s m) n.val = false ∧ p'.lineActive n.val = true) → p'.ret = s.ret ∧ q = p') := by
    intro level
    have result := debounced_eq p n.val level
    by_cases active : p.lineActive n.val = false ∧ (p.setLine n.val ⟨level, level, none⟩).lineActive n.val = true
    · rw [if_pos active] at result
      exact ⟨(p.setLine n.val ⟨level, level, none⟩).setStatus n.val, _, congrArg s.withPart result, rfl,
        fun _ => ⟨rfl, fun k small => inSet_setStatus (p.setLine n.val ⟨level, level, none⟩) small,
          recomputed_refreshAll sorted⟩, fun other => absurd active other⟩
    · rw [if_neg active] at result
      exact ⟨p.setLine n.val ⟨level, level, none⟩, _, congrArg s.withPart result, rfl, fun h => absurd h active,
        fun _ => ⟨rfl, rfl⟩⟩
  refine ⟨fun same settled idle => ?_, fun settled => ?_, fun other timed => ?_, fun early => ?_, fun c level which => ?_⟩
  · have kept : p.rawChange n.val high = p := by
      unfold Part.rawChange
      dsimp only
      rw [live, if_pos settled]
      have unchanged : ({ l with raw := high, timer := none } : LineLive) = p.lineLive n.val := by rw [live, same, ← idle]
      rw [unchanged]
      exact congrArg (fun t => (⟨s.ret, { m with lines := t }⟩ : Part)) (set_get_self (canonical_lines tables) n.val)
    rw [changed, kept]
    exact congrArg Host.Outcome.next (withPart_self running)
  · rw [changed, Part.rawChange, live]
    exact congrArg (fun q => Host.Outcome.next (s.withPart q)) (if_pos settled)
  · rw [changed, Part.rawChange, live, debounce]
    exact congrArg (fun q => Host.Outcome.next (s.withPart q)) ((if_neg other).trans (if_neg timed))
  · have kept : p.endDebounce n.val = p := by
      unfold Part.endDebounce
      rw [live]
      split
      · rfl
      next e timer => exact if_neg (Nat.not_le.2 (early e timer))
    rw [ended, kept]
    exact congrArg Host.Outcome.next (withPart_self running)
  · obtain ⟨p', q, same, rest⟩ := raised level
    refine ⟨p', q, ?_, rest⟩
    rcases which with ⟨rfl, other, untimed, rfl⟩ | ⟨rfl, ⟨e, timer, past⟩, rfl⟩
    · rw [changed, ← same, Part.rawChange, live, debounce]
      exact congrArg (fun q => Host.Outcome.next (s.withPart q)) ((if_neg other).trans (if_pos untimed))
    · rw [ended, ← same, Part.endDebounce, live, timer]
      exact congrArg (fun q => Host.Outcome.next (s.withPart q)) (if_pos past)

/-- Settles O32: by the order of the tests, and what holds a demand. -/
theorem effectiveModeIsTheHighestDemand : Obligations.EffectiveModeIsTheHighestDemand := by
  intro p g
  refine ⟨effectiveMode_of_latched, fun clear => ?_, fun mode => holds_iff⟩
  rw [effectiveMode_of_unlatched clear]
  refine ⟨fun recalled => if_pos recalled, fun free lockdown => ?_, fun free free' opened => ?_, fun free free' free'' => ?_⟩
  · rw [free, lockdown]
    rfl
  · rw [free, free', opened]
    rfl
  · rw [free, free', free'']
    rfl

end Sys2Proof.Proofs
end

section
/-! SUPPORT. The statements on decisions (chapter 5): the scan, an answer, a placement. -/

namespace Sys2Proof.Laws

open Sys2Proof.Machine Sys2Proof.Safety

section
variable {p : Part} {i : Nat}

/-! ## The scan (R87, R88) -/

/-- The place of a drop in the scan that starts after a position. -/
def scanPlace (position i : Nat) : Nat := (i + 95 - position) % 96

theorem scan_at_place {position : Nat} (place : position < 96) (small : i < 96) :
    (position + 1 + scanPlace position i) % 96 = i := by
  unfold scanPlace
  omega

theorem scanPlace_of_scanned {position k : Nat} (place : position < 96) (small : k < 96) :
    scanPlace position ((position + 1 + k) % 96) = k := by
  unfold scanPlace
  omega

theorem chooseDrop_of_first (place : p.main.arbiter < 96) (eligible : eligibleDrop p i)
    (first : ∀ j, eligibleDrop p j → scanPlace p.main.arbiter i ≤ scanPlace p.main.arbiter j) :
    p.chooseDrop = some i := by
  obtain ⟨small, meets⟩ := eligible
  have found : (List.range 96).find? (p.eligible ∘ fun k => (p.main.arbiter + 1 + k) % 96) =
      some (scanPlace p.main.arbiter i) := by
    refine List.find?_range_eq_some.2 ⟨?_, List.mem_range.2 (Nat.mod_lt _ (by decide)), fun k before => ?_⟩
    · rw [Function.comp_apply, scan_at_place place small]
      exact eligible_iff.2 meets
    · rw [Bool.not_eq_true']
      refine Bool.eq_false_iff.2 fun also => ?_
      have small' : k < 96 := Nat.lt_trans before (Nat.mod_lt _ (by decide))
      have later := first _ ⟨Nat.mod_lt _ (by decide), eligible_iff.1 also⟩
      rw [scanPlace_of_scanned place small'] at later
      omega
  rw [Part.chooseDrop, scanFrom, List.find?_map]
  dsimp only [Config.drops]
  rw [found]
  exact congrArg some (scan_at_place place small)

theorem decision_of_none_eligible (none' : ∀ i, ¬eligibleDrop p i) : p.decision = p := by
  have unchosen : p.chooseDrop = none := by
    rw [← Option.not_isSome_iff_eq_none, chooseDrop_isSome]
    rintro ⟨i, eligible⟩
    exact none' i eligible
  rw [Part.decision, unchosen]

theorem exec_decision_running {s : State} {m : Main} (running : s.well = .running m) :
    exec .decision s = .next (s.withPart (Part.decision (partOf s m))) :=
  (exec_decision s).trans (whileRunning_running running _)

/-! ## What a verdict leaves unchanged -/

theorem tell_drop_queue (p : Part) (i : Nat) (a : Answer) : ((p.tell i a).drop i).queue = (p.drop i).queue := by
  by_cases up : (p.drop i).state = .up
  · rw [tell_drop_up p up]
  · rw [tell_of_not_up p up]

theorem enact_arbiter_queue (p : Part) (i : Nat) (cfg : DropConfig) (v : Verdict) :
    (p.enact i cfg v).main.arbiter = p.main.arbiter ∧ ((p.enact i cfg v).drop i).queue = (p.drop i).queue := by
  cases v with
  | answer a =>
    change (p.tell i a).main.arbiter = _ ∧ _
    rw [tell_main]
    exact ⟨rfl, tell_drop_queue p i a⟩
  | place pl =>
    change (p.place i cfg pl).main.arbiter = _ ∧ ((p.place i cfg pl).drop i).queue = _
    cases slot : p.freeSlot with
    | none =>
      rw [Part.place, slot]
      exact ⟨rfl, rfl⟩
    | some k =>
      rw [place_eq cfg pl slot, send_spec]
      have queue := congrArg DropLive.queue (placed_drop_self p i k pl (p.callOf i cfg pl))
      exact ⟨rfl, queue⟩

theorem decideAt_arbiter_queue {r : Request} {rest : List Request} (queue : (p.drop i).queue = r :: rest) :
    (p.decideAt i).main.arbiter = i ∧ ((p.decideAt i).drop i).queue = (p.drop i).queue.tail := by
  rw [decideAt_eq queue (v := (p.verdict (p.drop i) (p.dropConfig i) r).1)
    (full := (p.verdict (p.drop i) (p.dropConfig i) r).2) rfl]
  obtain ⟨arbiter, kept⟩ := enact_arbiter_queue
    (requestTaken p i (p.verdict (p.drop i) (p.dropConfig i) r).2) i (p.dropConfig i)
    (p.verdict (p.drop i) (p.dropConfig i) r).1
  exact ⟨arbiter, kept.trans (congrArg DropLive.queue (requestTaken_drop_self p i _))⟩

/-! ## The next number (R115) -/

/-- A number following the counter that no call holds is the next one. -/
theorem nextNumber_of_free (free : ∀ e ∈ p.main.calls, e.2.number ≠ followingNumber p.main.counter) :
    p.nextNumber = followingNumber p.main.counter := by
  have unheld : (p.callNumbered (numberAfter p.main.counter)).isSome = false := by
    refine Bool.eq_false_iff.2 fun held => ?_
    obtain ⟨e, mem, same⟩ := callNumbered_isSome_iff.1 held
    exact free e mem same
  change p.numberFrom (31 + 1) p.main.counter = _
  rw [Part.numberFrom, unheld]
  rfl

/-! ## A placement written (R109) -/

/-- The send queue with CALL_PLACE of a call asked for. -/
def placeQueue (m : Main) (c : Call) : List DispatcherFrame :=
  if m.sendQueue.length < 64 then m.sendQueue ++ [placeFrame c] else m.sendQueue

/-- The part with a placement written. -/
def placedWhole (p : Part) (i slot : Nat) (pl : Placement) (c : Call) : Part :=
  (placed p i slot pl c).withSendQueue (placeQueue p.main c)

theorem decision_of_placement {slot : Nat} {r : Request} {rest : List Request} {pl : Placement} {full : Bool}
    (chosen : p.chooseDrop = some i) (queue : (p.drop i).queue = r :: rest)
    (verdict : p.verdict (p.drop i) (p.dropConfig i) r = (.place pl, full)) (free : p.freeSlot = some slot) :
    p.decision = placedWhole (requestTaken p i full) i slot pl
      ((requestTaken p i full).callOf i (p.dropConfig i) pl) := by
  have free' : (requestTaken p i full).freeSlot = some slot := free
  rw [decision_eq chosen queue verdict]
  exact (place_eq (p.dropConfig i) pl free').trans (send_spec _ _)

theorem placedWhole_drop_self (p : Part) (i slot : Nat) (pl : Placement) (c : Call) :
    (placedWhole p i slot pl c).drop i = admittedDrop (p.drop i) pl := placed_drop_self p i slot pl c

theorem placedWhole_drop_ne (p : Part) {i j : Nat} (other : j ≠ i) (slot : Nat) (pl : Placement) (c : Call) :
    (placedWhole p i slot pl c).drop j = p.drop j := placed_drop_ne p other slot pl c

theorem placedWhole_cred (p : Part) (i slot : Nat) (pl : Placement) (c : Call) (b : Badge) :
    credAt (placedWhole p i slot pl c).ret b = (credAt p.ret b).map fun v =>
      if pl.reserve = true ∧ pl.badge = some b then { v with reserved := true } else v := by
  refine (reserveFor_cred p pl b).trans ?_
  by_cases reserves : pl.reserve = true ∧ pl.badge = some b
  · simp only [if_pos reserves]
    rfl
  · simp only [if_neg reserves, Option.map_id']
    rfl

/-! ## An anonymous trip (R96 to R109) -/

theorem mem_groups_direct {g : Nat} {x : Byte} : x ∈ (Route.mk (byte g) none).groups ↔ x = byte g := List.mem_singleton

theorem directGroup_eq_some {cfg : DropConfig} {dest : Byte} {g : Nat} (place : g < 8)
    (within : inSet cfg.groups g = true) (serves : p.serves (byte g) dest = true)
    (lowest : ∀ k < g, inSet cfg.groups k = true → p.serves (byte k) dest = false) : p.directGroup cfg dest = some g := by
  refine List.find?_range_eq_some (n := 8).2 ⟨by rw [within, serves]; rfl, List.mem_range.2 place, fun k before => ?_⟩
  cases held : inSet cfg.groups k with
  | false => rfl
  | true => rw [lowest k before held]; rfl

theorem route_of_directGroup {cfg : DropConfig} {dest : Byte} {g : Nat} (direct : p.directGroup cfg dest = some g) :
    p.route cfg dest = some ⟨byte g, none⟩ := by
  rw [Part.route, direct]

theorem ordinaryVerdict_of_route {d : DropLive} {cfg : DropConfig} {landing : Option Byte} {who : Holder} {dest : Byte}
    {route : Route} (bound : destination d landing who = some dest) (away : dest ≠ cfg.landing)
    (found : p.route cfg dest = some route) :
    p.ordinaryVerdict d cfg landing who = p.tripVerdict d cfg who route dest := by
  rw [Part.ordinaryVerdict, bound]
  dsimp only
  rw [if_neg away, found]

theorem needsTicket_anonymous (p : Part) (cfg : DropConfig) (dest : Byte) : p.needsTicket cfg none dest = false := by
  rw [Part.needsTicket, isClass_none, Bool.and_false]
  rfl

theorem poolIsFull_direct (p : Part) (who : Holder) (g : Byte) : p.poolIsFull who ⟨g, none⟩ = false := rfl

/-- An anonymous trip that passes steps 8 and 9, to a PUBLIC or SKY landing, is placed when a slot is FREE. -/
theorem tripVerdict_anonymous {d : DropLive} {cfg : DropConfig} {g dest : Byte}
    (passes : PassesService p none ⟨g, none⟩) (kind : p.kindOf dest = .publicLanding ∨ p.kindOf dest = .sky)
    (free : ∃ k < 32, Table.lookup p.main.calls k = none) :
    p.tripVerdict d cfg none ⟨g, none⟩ dest = (.place (p.placement d none ⟨g, none⟩ dest), false) :=
  (tripVerdict_permitted passes (needsTicket_anonymous p cfg dest) (permissionDenial_public_or_sky kind)).trans
    (permittedVerdict_placed rfl (.inl (poolIsFull_direct p none g)) free)

end

end Sys2Proof.Laws

namespace Sys2Proof.Proofs

open Sys2Proof.Machine Sys2Proof.Safety Sys2Proof.Laws

/-- Settles O35: the drop first in the scan is chosen, and its answer is told to it. -/
theorem decisionsAreScannedAndAnswered : Obligations.DecisionsAreScannedAndAnswered := by
  refine ⟨fun s m eligible running place is => ⟨fun none' => ?_, fun i meets first => ?_⟩,
    fun s m i r rest a full running chosen queue verdict => ?_⟩
  · have same : Part.decision (partOf s m) = partOf s m :=
      decision_of_none_eligible fun i meets => none' i ((is i).2 meets)
    rw [exec_decision_running running, same, withPart_self running]
  · have chosen : Part.chooseDrop (partOf s m) = some i :=
      chooseDrop_of_first place ((is i).1 meets) fun j also => first j ((is j).2 also)
    obtain ⟨-, -, some', -⟩ := (is i).1 meets
    obtain ⟨r, rest, queue⟩ := List.exists_cons_of_ne_nil some'
    obtain ⟨arbiter, tail⟩ := decideAt_arbiter_queue queue
    refine ⟨Part.decideAt (partOf s m) i, ?_, arbiter, tail⟩
    rw [exec_decision_running running, Part.decision, chosen]
  · let p := partOf s m
    have up : ((requestTaken p i full).drop i).state = .up := by
      rw [requestTaken_drop_self]
      exact (eligible_iff.1 (eligible_of_chosen chosen).2).1
    refine ⟨(requestTaken p i full).tell i a, ?_, tell_ret _ i a, tell_main _ i a, ?_, fun j other => ?_⟩
    · rw [exec_decision_running running, decision_eq chosen queue verdict]
      rfl
    · rw [tell_drop_up _ up, requestTaken_drop_self, queue]
      rfl
    · rw [tell_drop_ne _ other, requestTaken_drop_ne p other]

/-- Settles O36: the placement step, by what each of its four items writes. -/
theorem decisionPlacesACall : Obligations.DecisionPlacesACall := by
  intro s m i slot r rest pl full running tables chosen queue verdict place empty lowest
  let p := requestTaken (partOf s m) i full
  let c := p.callOf i (Part.dropConfig (partOf s m) i) pl
  have free : Part.freeSlot (partOf s m) = some slot := freeSlot_eq_some.2 ⟨place, empty, lowest⟩
  obtain ⟨k, number, held, unheld⟩ := nextNumber_spec (p := p) (calls_lt_of_free (m := m) tables place empty)
  refine ⟨placedWhole p i slot pl c, c, ?_, rfl, nextNumber_ne_zero p, unheld, ⟨k, number, held⟩, nextNumber_of_free (p := p),
    reserveFor_ret p pl, placedWhole_cred p i slot pl c, rfl, ?tickets, ?_, fun j other => ?_⟩
  · rw [exec_decision_running running, decision_of_placement chosen queue verdict free]
  case tickets =>
    change placedTickets m.tickets pl _ = _
    unfold placedTickets
    cases pl.claim with
    | some t => rfl
    | none =>
      cases pl.newTicket with
      | none => rfl
      | some fresh => cases pl.badge <;> rfl
  · rw [placedWhole_drop_self, requestTaken_drop_self, queue]
    rfl
  · rw [placedWhole_drop_ne p other, requestTaken_drop_ne _ other]

/-- Settles O37: the verdict of the request is the placement of a direct trip. -/
theorem anonymousTripIsPlaced : Obligations.AnonymousTripIsPlaced := by
  intro s m i slot g rest l cfg running tables chosen queue config away place within serves lowest up service mode kind
    small empty first
  let p := partOf s m
  have found : p.dropConfig i = cfg := get_of_lookup config
  have passes : PassesService p none ⟨byte g, none⟩ := {
    link := up
    service := fun x mem => by
      rw [mem_groups_direct.1 mem, byte_toNat (by omega)]
      exact service
    recalled := fun x mem recalled => by
      rw [mem_groups_direct.1 mem, byte_toNat (by omega)] at recalled
      rcases mode with mode | mode <;> cases mode.symm.trans recalled
    lockdown := .inr fun x mem lockdown => by
      rw [mem_groups_direct.1 mem, byte_toNat (by omega)] at lockdown
      rcases mode with mode | mode <;> cases mode.symm.trans lockdown }
  have verdict : p.verdict (p.drop i) (p.dropConfig i) (.anonymous l) =
      (.place (p.placement (p.drop i) none ⟨byte g, none⟩ l), false) := by
    rw [found]
    exact (ordinaryVerdict_of_route (landing := some l) rfl away
      (route_of_directGroup (directGroup_eq_some place within serves lowest))).trans
        (tripVerdict_anonymous passes kind ⟨slot, small, empty⟩)
  let pl := p.placement (p.drop i) none ⟨byte g, none⟩ l
  let c := (requestTaken p i false).callOf i cfg pl
  refine ⟨placedWhole (requestTaken p i false) i slot pl c, c, ?_, rfl, lookup_put_self _ _ _, rfl,
    fun room => if_pos room, rfl, Bool.or_false _⟩
  rw [exec_decision_running running,
    decision_of_placement chosen queue verdict (freeSlot_eq_some.2 ⟨small, empty, first⟩), found]

end Sys2Proof.Proofs
end

section
/-! SUPPORT. The checks of a decision in order (sections 5.2 to 5.4), step by step. -/

namespace Sys2Proof.Laws

open Sys2Proof.Machine Sys2Proof.Safety

section
variable {p : Part} {d : DropLive} {cfg : DropConfig} {r : Request} {b : Badge} {c : Cred} {landing : Option Byte}

/-! ## Step 1 (R90) -/

theorem repeatAnswer_of_match {k : RepeatMemory} (held : d.memory = some k) (same : k.badge = b)
    (fits : landing = none ∨ landing = some k.dest) :
    repeatAnswer d b landing = some (.again k.group k.car k.dest) := by
  unfold repeatAnswer
  rw [held]
  exact if_pos ⟨same, fits⟩

theorem repeatAnswer_of_apart
    (apart : ∀ k, d.memory = some k → k.badge = b → landing ≠ none ∧ landing ≠ some k.dest) :
    repeatAnswer d b landing = none := by
  unfold repeatAnswer
  cases held : d.memory with
  | none => rfl
  | some k =>
    refine if_neg ?_
    rintro ⟨same, bare | carried⟩
    · exact (apart k held same).1 bare
    · exact (apart k held same).2 carried

theorem verdict_of_repeat (badge : requestBadge r = some b) {a : Answer}
    (held : repeatAnswer d b (requestLanding r) = some a) : p.verdict d cfg r = (.answer a, false) := by
  unfold Part.verdict
  rw [badge]
  dsimp only
  rw [held]

theorem verdict_of_badge (badge : requestBadge r = some b) (apart : repeatAnswer d b (requestLanding r) = none) :
    p.verdict d cfg r = p.badgeVerdict d cfg b (requestLanding r) := by
  unfold Part.verdict
  rw [badge]
  dsimp only
  rw [apart]

theorem verdict_anonymous (badge : requestBadge r = none) :
    p.verdict d cfg r = p.ordinaryVerdict d cfg (requestLanding r) none := by
  unfold Part.verdict
  rw [badge]

/-! ## Steps 2 and 3 (R91, R92) -/

/-- Step 3's tests of a record, with the end of its validity as a test of the day it carries. -/
theorem credentialDenial_eq (p : Part) (b : Badge) (c : Cred) : p.credentialDenial b c =
    if c.state = .suspended then some .suspended
    else if (!p.tenantLive c.tenant) = true then some .tenantSuspended
    else if p.ret.calendar.day < c.validFrom then some .notYetValid
    else if (c.validTo.any fun e => decide (e < p.ret.calendar.day)) = true then some .expired
    else if p.badgeInCall b = true then some .badgeInCall
    else none := by
  unfold Part.credentialDenial
  cases c.validTo <;> rfl

theorem badgeInCall_iff : p.badgeInCall b = true ↔ ∃ e ∈ p.main.calls, e.2.badge = some b := by
  simp [Part.badgeInCall]

section
variable (active : c.state ≠ .suspended)

theorem credentialDenial_suspended (suspended : c.state = .suspended) : p.credentialDenial b c = some .suspended := by
  rw [credentialDenial_eq, if_pos suspended]

include active

theorem credentialDenial_tenantSuspended (owned : c.tenant ≠ 0)
    (dead : (p.tenant c.tenant).map Tenant.state ≠ some .live) : p.credentialDenial b c = some .tenantSuspended := by
  have not_live : ¬p.tenantLive c.tenant = true := fun live => ((tenantLive_iff p _).1 live).elim owned dead
  rw [credentialDenial_eq, if_neg active, if_pos (by rw [Bool.eq_false_iff.2 not_live]; rfl)]

variable (live : c.tenant = 0 ∨ (p.tenant c.tenant).map Tenant.state = some .live)
include live

/-- Past the tenant's test the days and the calls remain. -/
theorem credentialDenial_of_live : p.credentialDenial b c =
    if p.ret.calendar.day < c.validFrom then some .notYetValid
    else if (c.validTo.any fun e => decide (e < p.ret.calendar.day)) = true then some .expired
    else if p.badgeInCall b = true then some .badgeInCall
    else none := by
  rw [credentialDenial_eq, if_neg active, (tenantLive_iff p _).2 live]
  exact if_neg Bool.false_ne_true

theorem credentialDenial_notYetValid (early : p.ret.calendar.day < c.validFrom) :
    p.credentialDenial b c = some .notYetValid := by
  rw [credentialDenial_of_live active live, if_pos early]

variable (begun : c.validFrom ≤ p.ret.calendar.day)
include begun

theorem credentialDenial_expired {e : Half} (ends : c.validTo = some e) (late : e < p.ret.calendar.day) :
    p.credentialDenial b c = some .expired := by
  rw [credentialDenial_of_live active live, if_neg (BitVec.not_lt.2 begun), ends]
  exact if_pos (decide_eq_true late)

variable (current : ∀ e, c.validTo = some e → p.ret.calendar.day ≤ e)
include current

/-- Past the days the calls remain. -/
theorem credentialDenial_of_current : p.credentialDenial b c =
    if p.badgeInCall b = true then some .badgeInCall else none := by
  have valid : ¬(c.validTo.any fun e => decide (e < p.ret.calendar.day)) = true := by
    cases ends : c.validTo with
    | none => exact Bool.false_ne_true
    | some e => exact fun late => absurd (of_decide_eq_true late) (BitVec.not_lt.2 (current e ends))
  rw [credentialDenial_of_live active live, if_neg (BitVec.not_lt.2 begun), if_neg valid]

theorem credentialDenial_badgeInCall (calling : ∃ e ∈ p.main.calls, e.2.badge = some b) :
    p.credentialDenial b c = some .badgeInCall := by
  rw [credentialDenial_of_current active live begun current, if_pos (badgeInCall_iff.2 calling)]

theorem credentialDenial_none (free : ∀ e ∈ p.main.calls, e.2.badge ≠ some b) : p.credentialDenial b c = none := by
  rw [credentialDenial_of_current active live begun current, if_neg]
  intro calling
  obtain ⟨e, mem, same⟩ := badgeInCall_iff.1 calling
  exact free e mem same

end

theorem badgeVerdict_invalid (invalid : p.ret.calendar.valid = false) :
    p.badgeVerdict d cfg b landing = (deny .calendarInvalid, false) := by
  unfold Part.badgeVerdict
  rw [invalid]
  rfl

section
variable (valid : p.ret.calendar.valid = true)
include valid

theorem badgeVerdict_unknown (unknown : p.cred b = none) :
    p.badgeVerdict d cfg b landing = (deny .unknownBadge, false) := by
  unfold Part.badgeVerdict
  rw [valid, unknown]
  rfl

variable (record : p.cred b = some c)
include record

theorem badgeVerdict_denied {why : Denial} (denied : p.credentialDenial b c = some why) :
    p.badgeVerdict d cfg b landing = (deny why, false) := by
  unfold Part.badgeVerdict
  rw [valid, record]
  dsimp only
  rw [denied]
  rfl

/-! ## Steps 4 and 5 (R93 to R95) -/

variable (passes : p.credentialDenial b c = none)
include passes

theorem badgeVerdict_claim {t : Ticket} (claims : p.claimTicket cfg b landing = some t) :
    p.badgeVerdict d cfg b landing = (p.claimVerdict b c t, false) := by
  unfold Part.badgeVerdict
  rw [valid, record]
  dsimp only
  rw [passes]
  dsimp only
  rw [claims]
  rfl

theorem badgeVerdict_unclaimed (unclaimed : p.claimTicket cfg b landing = none) : p.badgeVerdict d cfg b landing =
    if c.state = .exhausted then (deny .quotaExhausted, false)
    else p.ordinaryVerdict d cfg landing (some (b, c)) := by
  unfold Part.badgeVerdict
  rw [valid, record]
  dsimp only
  rw [passes]
  dsimp only
  rw [unclaimed]
  rfl

end

theorem claimTicket_eq_none
    (unclaimed : cfg.kind = .lobby ∨ ∀ t ∈ p.main.tickets, claimable cfg b landing t = false) :
    p.claimTicket cfg b landing = none := by
  unfold Part.claimTicket
  split
  next sky =>
    rcases unclaimed with lobby | unclaimable
    · cases lobby.symm.trans sky
    · exact List.find?_eq_none.2 fun t mem => Bool.eq_false_iff.1 (unclaimable t mem)
  next => rfl

theorem claimable_iff {t : Ticket} : claimable cfg b landing t = true ↔ t.badge = b ∧ t.state.isIssued = true ∧
    t.landing = cfg.landing ∧ inSet cfg.groups t.group.toNat = true ∧ (landing = none ∨ landing = some t.dest) := by
  simp [claimable, and_assoc]

/-- At a SKY drop the one ISSUED ticket of a badge is the one claimed, if it is claimable. -/
theorem claimTicket_eq_some {t : Ticket} (sky : cfg.kind = .sky) (mem : t ∈ p.main.tickets)
    (claims : claimable cfg b landing t = true)
    (only : ∀ u ∈ p.main.tickets, u.badge = b → u.state.isIssued = true → u = t) :
    p.claimTicket cfg b landing = some t := by
  rw [Part.claimTicket, if_pos sky]
  obtain ⟨u, found⟩ := Option.isSome_iff_exists.1 (List.find?_isSome.2 ⟨t, mem, claims⟩)
  obtain ⟨badge, issued, -⟩ := claimable_iff.1 (List.find?_some found)
  rw [found, only u (List.mem_of_find?_eq_some found) badge issued]

theorem credentialDenial_of_passes (passes : PassesCredential p d r b c) : p.credentialDenial b c = none :=
  credentialDenial_none passes.state passes.tenant passes.validFrom passes.validTo passes.free

theorem verdict_of_passes (passes : PassesCredential p d r b c) :
    p.verdict d cfg r = p.badgeVerdict d cfg b (requestLanding r) :=
  verdict_of_badge passes.badge (repeatAnswer_of_apart passes.memory)

end

/-! ## Steps 8 and 9 (R94, R99, R100) -/

section
variable {p : Part} {groups : List Byte} {security : Bool}

theorem serviceRefusal_down (down : p.main.link ≠ .up) : p.serviceRefusal groups = some .dispatcherDown := if_pos down

theorem serviceRefusal_groupOut (up : p.main.link = .up) (out : ∃ g ∈ groups, inSet p.main.inService g.toNat = false) :
    p.serviceRefusal groups = some .groupOut := by
  rw [Part.serviceRefusal, if_neg (not_not.2 up), if_pos]
  obtain ⟨g, mem, out⟩ := out
  exact List.any_eq_true.2 ⟨g, mem, by rw [out]; rfl⟩

theorem serviceRefusal_none (up : p.main.link = .up) (served : ∀ g ∈ groups, inSet p.main.inService g.toNat = true) :
    p.serviceRefusal groups = none := by
  rw [Part.serviceRefusal, if_neg (not_not.2 up), if_neg]
  intro out
  obtain ⟨g, mem, out⟩ := List.any_eq_true.1 out
  rw [served g mem] at out
  cases out

theorem modeDenial_recall (recalled : ∃ g ∈ groups, p.mode g.toNat = .recalled) :
    p.modeDenial groups security = some .modeRecall := by
  obtain ⟨g, mem, recalled⟩ := recalled
  exact if_pos (List.any_eq_true.2 ⟨g, mem, decide_eq_true recalled⟩)

theorem any_recalled_iff : (groups.any fun g => decide (p.mode g.toNat = .recalled)) = true ↔
    ∃ g ∈ groups, p.mode g.toNat = .recalled := by
  simp

theorem modeDenial_lockdown (clear : ∀ g ∈ groups, p.mode g.toNat ≠ .recalled)
    (locked : ∃ g ∈ groups, p.mode g.toNat = .lockdown) : p.modeDenial groups false = some .modeLockdown := by
  obtain ⟨g, mem, locked⟩ := locked
  rw [Part.modeDenial, if_neg, if_pos]
  · exact List.any_eq_true.2 ⟨g, mem, decide_eq_true locked⟩
  · rw [any_recalled_iff]
    rintro ⟨g, mem, recalled⟩
    exact clear g mem recalled

theorem claimVerdict_refused {b : Badge} {c : Cred} {t : Ticket} {why : NoService}
    (refused : p.serviceRefusal [t.group] = some why) : p.claimVerdict b c t = .answer (.noService why) := by
  unfold Part.claimVerdict
  rw [refused]
  rfl

theorem claimVerdict_denied {b : Badge} {c : Cred} {t : Ticket} (served : p.serviceRefusal [t.group] = none) {why : Denial}
    (denied : p.modeDenial [t.group] (decide (c.cls = .security)) = some why) :
    p.claimVerdict b c t = .answer (.denied why) := by
  unfold Part.claimVerdict
  rw [served]
  dsimp only
  rw [denied]
  rfl

/-- The placement of a claim (R94). -/
def claimPlacement (b : Badge) (c : Cred) (t : Ticket) : Placement where
  badge := some b
  group := t.group
  firstDest := t.dest
  finalDest := none
  accessible := c.accessible
  car := none
  reserve := false
  admission := false
  newTicket := none
  claim := some t

/-- Past the tests of service and mode a claim needs a slot alone. -/
theorem claimVerdict_of_passes {b : Badge} {c : Cred} {t : Ticket}
    (passes : PassesService p (some (b, c)) ⟨t.group, none⟩) : p.claimVerdict b c t =
      if p.freeSlot.isNone then .answer (.noService .callsFull) else .place (claimPlacement b c t) := by
  have served : p.serviceRefusal [t.group] = none := serviceRefusal_of_passesService passes
  have opened : p.modeDenial [t.group] (decide (c.cls = .security)) = none := modeDenial_of_passesService passes
  unfold Part.claimVerdict
  rw [served]
  dsimp only
  rw [opened]
  rfl

theorem tripVerdict_refused {d : DropLive} {cfg : DropConfig} {who : Holder} {route : Route} {dest : Byte} {why : NoService}
    (refused : p.serviceRefusal route.groups = some why) :
    p.tripVerdict d cfg who route dest = (.answer (.noService why), false) := by
  unfold Part.tripVerdict
  rw [refused]
  rfl

theorem tripVerdict_modeDenied {d : DropLive} {cfg : DropConfig} {who : Holder} {route : Route} {dest : Byte}
    (served : p.serviceRefusal route.groups = none) {why : Denial}
    (denied : p.modeDenial route.groups (isClass who .security) = some why) :
    p.tripVerdict d cfg who route dest = (.answer (.denied why), false) := by
  unfold Part.tripVerdict
  rw [served]
  dsimp only
  rw [denied]
  rfl

end

/-! ## Steps 6 and 7 (R96 to R98) -/

section
variable {p : Part} {d : DropLive} {cfg : DropConfig} {who : Holder} {landing : Option Byte} {dest : Byte}

theorem destination_eq (d : DropLive) (landing : Option Byte) (who : Holder) :
    destination d landing who = destinationOf d landing who := by
  cases landing with
  | some l => cases who <;> rfl
  | none =>
    cases who with
    | none => rfl
    | some h =>
      obtain ⟨b, c⟩ := h
      cases escort : c.escort with
      | false => simp [destination, destinationOf, escort]
      | true =>
        cases window : d.escort with
        | none => simp [destination, destinationOf, escort, window]
        | some w =>
          by_cases same : w.tenant = c.tenant
          · simp [destination, destinationOf, escort, window, same]
          · simp [destination, destinationOf, escort, window, same, Ne.symm same]

theorem ordinaryVerdict_noDestination (unbound : destination d landing who = none) :
    p.ordinaryVerdict d cfg landing who = (.answer (.denied .noDestination), false) := by
  rw [Part.ordinaryVerdict, unbound]
  rfl

theorem ordinaryVerdict_here (bound : destination d landing who = some dest) (here : dest = cfg.landing) :
    p.ordinaryVerdict d cfg landing who = (.answer (.denied .noRoute), false) := by
  rw [Part.ordinaryVerdict, bound]
  exact if_pos here

theorem ordinaryVerdict_noRoute (bound : destination d landing who = some dest) (away : dest ≠ cfg.landing)
    (unserved : p.route cfg dest = none) :
    p.ordinaryVerdict d cfg landing who = (.answer (.denied .noRoute), false) := by
  rw [Part.ordinaryVerdict, bound]
  dsimp only
  rw [if_neg away, unserved]
  rfl

theorem route_of_indirect (unserved : ∀ g < 8, inSet cfg.groups g = true → p.serves (byte g) dest = false) :
    p.route cfg dest = (p.ret.transfers.find? (p.transferFits cfg dest)).map
      fun e => ⟨e.2.first, some (e.2.landing, e.2.second)⟩ := by
  have indirect : p.directGroup cfg dest = none := List.find?_eq_none.2 fun g mem => by
    cases held : inSet cfg.groups g with
    | false => exact Bool.false_ne_true
    | true =>
      rw [unserved g (mem_eight.1 mem) held]
      exact Bool.false_ne_true
  rw [Part.route, indirect]

end

end Sys2Proof.Laws

namespace Sys2Proof.Proofs

open Sys2Proof.Machine Sys2Proof.Safety Sys2Proof.Laws

/-- Settles O38: each step answers when those before it are passed. -/
theorem badgeChecksInOrder : Obligations.BadgeChecksInOrder := by
  intro p d cfg r b badge
  refine ⟨fun k held same fits => verdict_of_repeat badge (repeatAnswer_of_match held same fits), fun apart => ?_⟩
  have verdict : p.verdict d cfg r = p.badgeVerdict d cfg b (requestLanding r) :=
    verdict_of_badge badge (repeatAnswer_of_apart apart)
  rw [verdict]
  refine ⟨badgeVerdict_invalid, fun valid => ⟨badgeVerdict_unknown valid, fun c record => ?_⟩⟩
  have denied {why : Denial} (h : p.credentialDenial b c = some why) :
      p.badgeVerdict d cfg b (requestLanding r) = (.answer (.denied why), false) := badgeVerdict_denied valid record h
  refine ⟨fun suspended => denied (credentialDenial_suspended suspended), fun active =>
    ⟨fun owned dead => denied (credentialDenial_tenantSuspended active owned dead), fun live =>
    ⟨fun early => denied (credentialDenial_notYetValid active live early), fun begun =>
    ⟨fun e ends late => denied (credentialDenial_expired active live begun ends late), fun current =>
    ⟨fun calling => denied (credentialDenial_badgeInCall active live begun current calling),
      fun free unclaimed exhausted => ?_⟩⟩⟩⟩⟩
  rw [badgeVerdict_unclaimed valid record (credentialDenial_none active live begun current free)
    (claimTicket_eq_none unclaimed), if_pos exhausted]
  rfl

/-- Settles O39: the claim, the destination, the route and the tests of service and mode, each by its own equation. -/
theorem claimRouteAndServiceInOrder : Obligations.ClaimRouteAndServiceInOrder := by
  refine ⟨fun p b c t => ⟨fun down => claimVerdict_refused (serviceRefusal_down down), fun up =>
      ⟨fun out => claimVerdict_refused (serviceRefusal_groupOut up ⟨_, List.mem_singleton_self _, out⟩), fun service => ?claim⟩⟩,
    fun p d cfg r => ⟨verdict_anonymous, fun b c passes => ⟨?claims, fun unclaimed able => ?_⟩⟩,
    fun p d cfg landing who => ?_, fun p d cfg who dest route => ⟨?_, route_of_indirect, ?_, fun up => ⟨?_, fun served => ?_⟩⟩⟩
  case claim =>
    have served : p.serviceRefusal [t.group] = none :=
      serviceRefusal_none up fun g mem => by rw [List.mem_singleton.1 mem]; exact service
    refine ⟨fun recalled => claimVerdict_denied served (modeDenial_recall ⟨_, List.mem_singleton_self _, recalled⟩),
      fun locked cls => claimVerdict_denied served ?_, fun clear open' => ?_⟩
    · rw [decide_eq_false cls]
      refine modeDenial_lockdown (fun g mem recalled => ?_) ⟨_, List.mem_singleton_self _, locked⟩
      rw [List.mem_singleton.1 mem, locked] at recalled
      cases recalled
    · have passes : PassesService p (some (b, c)) ⟨t.group, none⟩ := {
        link := up
        service := fun g mem => by rw [List.mem_singleton.1 mem]; exact service
        recalled := fun g mem => by rw [List.mem_singleton.1 mem]; exact clear
        lockdown := by
          by_cases locked : p.mode t.group.toNat = .lockdown
          · exact .inl (decide_eq_true (open' locked))
          · exact .inr fun g mem => by rw [List.mem_singleton.1 mem]; exact locked }
      rw [claimVerdict_of_passes passes]
      refine ⟨fun full => if_pos (freeSlot_isNone_iff.2 full), ?_⟩
      rintro ⟨k, small, free⟩
      exact ⟨claimPlacement b c t, if_neg fun full => freeSlot_isNone_iff.1 full k small free,
        rfl, rfl, rfl, rfl, rfl, rfl, rfl, rfl, rfl, rfl⟩
  case claims =>
    intro t e sky mem own state landing within carried only
    have claims : claimable cfg b (requestLanding r) t = true :=
      claimable_iff.2 ⟨own, by rw [state]; rfl, landing, within, carried⟩
    exact (verdict_of_passes passes).trans (badgeVerdict_claim passes.calendar passes.record
      (credentialDenial_of_passes passes) (claimTicket_eq_some sky mem claims only))
  · rw [verdict_of_passes passes, badgeVerdict_unclaimed passes.calendar passes.record
      (credentialDenial_of_passes passes) (claimTicket_eq_none unclaimed), if_neg able]
  · rw [← destination_eq]
    exact ⟨ordinaryVerdict_noDestination, fun dest bound => ⟨ordinaryVerdict_here bound, fun away =>
      ⟨ordinaryVerdict_noRoute bound away, fun route => ordinaryVerdict_of_route bound away⟩⟩⟩
  · exact fun g place within serves lowest => route_of_directGroup (directGroup_eq_some place within serves lowest)
  · exact fun down => tripVerdict_refused (serviceRefusal_down down)
  · exact fun out => tripVerdict_refused (serviceRefusal_groupOut up out)
  · have passes := serviceRefusal_none up served
    refine ⟨fun recalled => tripVerdict_modeDenied passes (modeDenial_recall recalled), fun clear locked cls => ?_⟩
    refine tripVerdict_modeDenied passes ?_
    rw [cls]
    exact modeDenial_lockdown clear locked

end Sys2Proof.Proofs
end

section
/-! SUPPORT. The statements on panel links (chapter 8): a reply, a miss, and the poll that follows. -/

namespace Sys2Proof.Laws

open Sys2Proof.Machine Sys2Proof.Safety

/-! ## What a reply makes of a drop (R155, R158 to R163) -/

section
variable (d : DropLive) (carried : Bool)

theorem heard_none : d.heard carried none =
    { d with missRun := 0, answers := if carried then d.answers.tail else d.answers } := by
  cases carried <;> rfl

theorem heard_some (r : Request) : d.heard carried (some r) =
    if d.queue.length < 2 then
      { d with missRun := 0, answers := if carried then d.answers.tail else d.answers, queue := d.queue ++ [r] }
    else { d with missRun := 0, answers := (if carried then d.answers.tail else d.answers) ++ [⟨.busy, false⟩] } := by
  cases carried <;> rfl

end

section
variable {p : Part} {i : Nat} {c : Poll} {request : Option Request}

theorem takeReply_unconfigured (state : (p.drop i).state = .unconfigured) : p.takeReply i c request = p := by
  unfold Part.takeReply
  dsimp only
  rw [state]

theorem takeReply_down (state : (p.drop i).state = .down) :
    p.takeReply i c request = p.setDrop i { p.drop i with state := .qualifying, qualifyRun := 1 } := by
  unfold Part.takeReply
  dsimp only
  rw [state]

theorem takeReply_qualifying (state : (p.drop i).state = .qualifying) : p.takeReply i c request =
    p.setDrop i (if p.ret.params.dropQualify ≤ (p.drop i).qualifyRun + 1 then
      { p.drop i with state := .up, qualifyRun := 0 }
    else { p.drop i with qualifyRun := (p.drop i).qualifyRun + 1 }) := by
  unfold Part.takeReply
  dsimp only
  rw [apply_ite (p.setDrop i), state]

theorem takeReply_up (state : (p.drop i).state = .up) :
    p.takeReply i c request = p.setDrop i ((p.drop i).heard c.answer.isSome request) := by
  unfold Part.takeReply
  dsimp only
  rw [state]

theorem takeReply_drop_ne {n : Nat} (other : n ≠ i) : (p.takeReply i c request).drop n = p.drop n := by
  cases state : (p.drop i).state with
  | unconfigured => rw [takeReply_unconfigured state]
  | down => rw [takeReply_down state, drop_setDrop_ne p other]
  | qualifying => rw [takeReply_qualifying state, drop_setDrop_ne p other]
  | up => rw [takeReply_up state, drop_setDrop_ne p other]

/-! ## What a miss makes of a drop (R156, R157) -/

theorem drop_raisePanelDown (p : Part) (n : Nat) : p.raisePanelDown.drop n = p.drop n := rfl

theorem takeMiss_idle (state : (p.drop i).state = .unconfigured ∨ (p.drop i).state = .down) : p.takeMiss i = p := by
  unfold Part.takeMiss
  dsimp only
  rcases state with state | state <;> rw [state]

theorem takeMiss_qualifying (state : (p.drop i).state = .qualifying) :
    p.takeMiss i = p.setDrop i { p.drop i with state := .down, qualifyRun := 0 } := by
  unfold Part.takeMiss
  dsimp only
  rw [state]

theorem takeMiss_up (state : (p.drop i).state = .up) : p.takeMiss i =
    if p.ret.params.missLimit ≤ (p.drop i).missRun + 1 then (p.setDrop i (.emptied .down)).raisePanelDown
    else p.setDrop i { p.drop i with missRun := (p.drop i).missRun + 1 } := by
  unfold Part.takeMiss
  dsimp only
  rw [state]

theorem takeMiss_counts (state : (p.drop i).state = .up) (few : (p.drop i).missRun + 1 < p.ret.params.missLimit) :
    p.takeMiss i = p.setDrop i { p.drop i with missRun := (p.drop i).missRun + 1 } :=
  (takeMiss_up state).trans (if_neg (Nat.not_le.2 few))

theorem takeMiss_fails (state : (p.drop i).state = .up) (many : p.ret.params.missLimit ≤ (p.drop i).missRun + 1) :
    p.takeMiss i = (p.setDrop i (.emptied .down)).raisePanelDown := (takeMiss_up state).trans (if_pos many)

theorem takeMiss_drop_ne {n : Nat} (other : n ≠ i) : (p.takeMiss i).drop n = p.drop n := by
  cases state : (p.drop i).state with
  | unconfigured => rw [takeMiss_idle (.inl state)]
  | down => rw [takeMiss_idle (.inr state)]
  | qualifying => rw [takeMiss_qualifying state, drop_setDrop_ne p other]
  | up =>
    rw [takeMiss_up state]
    split
    · rw [drop_raisePanelDown, drop_setDrop_ne p other]
    · exact drop_setDrop_ne p other _

end

/-! ## The poll's end and the next one (R153) -/

section
variable {p : Part} {l : Nat}

/-- The part with the poll of a link ended and the next one not yet sent. -/
def pollEnded (p : Part) (l : Nat) : Part := p.setLink l { p.panelLink l with poll := none }

theorem nextPoll_endPoll (p : Part) (l : Nat) : NextPoll l (pollEnded p l) (p.endPoll l) :=
  sendPoll_spec _ (by rw [pollEnded, panelLink_setLink_self])

theorem pollEnded_takeReply_main (p : Part) (l i : Nat) (c : Poll) (request : Option Request) :
    (pollEnded (p.takeReply i c request) l).main = { p.main with
      drops := (p.takeReply i c request).main.drops
      links := Table.set .fresh p.main.links l { p.panelLink l with poll := none } } := by
  unfold pollEnded
  rw [panelLink_takeReply, setLink_main, (takeReply_frame p i c request).2]

theorem panelLink_takeMiss (p : Part) (i l : Nat) : (p.takeMiss i).panelLink l = p.panelLink l := by
  rw [Part.panelLink, (takeMiss_frame p i).2, Part.panelLink]

theorem pollEnded_takeMiss_main (p : Part) (l i : Nat) :
    (pollEnded (p.takeMiss i) l).main = { p.main with
      drops := (p.takeMiss i).main.drops
      panelDown := (p.takeMiss i).main.panelDown
      links := Table.set .fresh p.main.links l { p.panelLink l with poll := none } } := by
  unfold pollEnded
  rw [panelLink_takeMiss, setLink_main, (takeMiss_frame p i).2]

theorem missPoll_idle (idle : (p.panelLink l).poll = none) : p.missPoll l = p := by
  rw [Part.missPoll, idle]

theorem missPoll_outstanding {k : Poll} (outstanding : (p.panelLink l).poll = some k) :
    p.missPoll l = (p.takeMiss (dropIndex l k.address)).endPoll l := by
  rw [Part.missPoll, outstanding]

theorem replyFrame_idle {a : Nat} {request : Option Request} (idle : (p.panelLink l).poll = none) :
    p.replyFrame l a request = p := by
  rw [Part.replyFrame, idle]

theorem replyFrame_own {k : Poll} {request : Option Request} (outstanding : (p.panelLink l).poll = some k) :
    p.replyFrame l k.address request = (p.takeReply (dropIndex l k.address) k request).endPoll l := by
  rw [Part.replyFrame, outstanding]
  exact if_pos rfl

theorem replyFrame_other {k : Poll} {a : Nat} {request : Option Request} (outstanding : (p.panelLink l).poll = some k)
    (other : a ≠ k.address) : p.replyFrame l a request = p.missPoll l := by
  rw [Part.replyFrame, outstanding]
  exact if_neg other

end

/-! ## Frames on a panel link (R203, R208) -/

section
variable {s : State} {m : Main} {l : Fin 6}

/-- The part with the receivers and the late marks given. -/
def withReceivers (p : Part) (receiving late : Set8) : Part :=
  ⟨p.ret, { p.main with receiving := receiving, late := late }⟩

/-- The part when a frame on a panel link has ended: its receiver hunts and its late mark is gone. -/
def afterPanelFrame (p : Part) (l : Fin 6) : Part :=
  withReceivers p (setPut p.main.receiving l.val false) (setPut p.main.late l.val false)

theorem panelFrame_late {p : Part} {judge : Part → Part} (late : inSet p.main.late l.val = true) :
    p.panelFrame l judge = afterPanelFrame p l := (panelFrame_spec p l judge).1 late

theorem panelFrame_judged {p : Part} {judge : Part → Part} (timely : inSet p.main.late l.val = false) :
    p.panelFrame l judge = judge (afterPanelFrame p l) := (panelFrame_spec p l judge).2 timely

/-- A frame that is late, or whose judgement changes nothing, is discarded. -/
theorem panelFrame_discards {p : Part} {judge : Part → Part}
    (discards : inSet p.main.late l.val = true ∨ judge (afterPanelFrame p l) = afterPanelFrame p l) :
    p.panelFrame l judge = afterPanelFrame p l := by
  cases late : inSet p.main.late l.val with
  | true => exact panelFrame_late late
  | false =>
    rw [panelFrame_judged late]
    refine discards.resolve_left fun also => ?_
    rw [late] at also
    cases also

variable (running : s.well = .running m)
include running

theorem exec_validReply_running (a : Fin 16) (request : Option Request) : exec (.validReply l a request) s =
    .next (s.withPart ((partOf s m).panelFrame l fun q => q.replyFrame l.val a.val request)) :=
  (exec_validReply l a request s).trans (whileRunning_running running _)

theorem exec_invalidReply_running : exec (.invalidReply l) s =
    .next (s.withPart ((partOf s m).panelFrame l fun q => q.missPoll l.val)) :=
  (exec_invalidReply l s).trans (whileRunning_running running _)

theorem exec_replyWindowEnd_running : exec (.replyWindowEnd l) s = .next (s.withPart ((partOf s m).windowEnd l)) :=
  (exec_replyWindowEnd l s).trans (whileRunning_running running _)

/-- The gap of a frame under way on a panel link is the end of an invalid reply. -/
theorem exec_frameGapTimeout_receiving (receiving : inSet m.receiving l.val = true) :
    exec (.frameGapTimeout (.panel l)) s = exec (.invalidReply l) s := by
  have under : Part.isReceiving (partOf s m) (.panel l) = true := receiving
  rw [exec_invalidReply_running running, exec_frameGapTimeout, whileRunning_running running]
  exact congrArg (fun q => Host.Outcome.next (s.withPart q)) (if_pos under)

theorem exec_replyWindowEnd_idle
    (idle : ∀ k, (Part.panelLink (partOf s m) l.val).poll = some k → k.windowRunning = false) :
    exec (.replyWindowEnd l) s = .next s := by
  rw [exec_replyWindowEnd_running running, (windowEnd_spec (partOf s m) l).1 idle, withPart_self running]

end

end Sys2Proof.Laws

namespace Sys2Proof.Proofs

open Sys2Proof.Machine Sys2Proof.Safety Sys2Proof.Laws

/-- Settles O49: a reply of the polled drop is taken by its state; any other frame is a miss or is discarded. -/
theorem validReplyIsTaken : Obligations.ValidReplyIsTaken := by
  intro s m l a request running
  refine ⟨fun discards => ?_, fun k outstanding => ⟨fun other => ?_, fun own timely d polled => ?_⟩⟩
  · rw [exec_validReply_running running, panelFrame_discards (discards.symm.imp_right replyFrame_idle)]
    rfl
  · rw [exec_validReply_running running, exec_invalidReply_running running]
    cases late : inSet m.late l.val with
    | true => rw [panelFrame_late late, panelFrame_late late]
    | false => rw [panelFrame_judged late, panelFrame_judged late,
        replyFrame_other (p := afterPanelFrame (partOf s m) l) outstanding other]
  · let x := afterPanelFrame (partOf s m) l
    let i := dropIndex l.val k.address
    refine ⟨pollEnded (x.takeReply i k request) l.val, (x.takeReply i k request).endPoll l.val, ?_, nextPoll_endPoll _ _,
      (takeReply_frame x i k request).1, pollEnded_takeReply_main x l.val i k request, fun n other => takeReply_drop_ne other,
      fun state => ?_, fun state => ?_, fun state => ?_, fun state acked is => ⟨fun none' => ?_, fun r some' => ?_⟩⟩
    · rw [exec_validReply_running running, panelFrame_judged timely, own, replyFrame_own (p := x) outstanding]
    all_goals
      subst polled
      change (x.takeReply i k request).drop i = _
    · rw [takeReply_unconfigured (p := x) (i := i) state]
      rfl
    · rw [takeReply_down (p := x) (i := i) state, drop_setDrop_self]
      rfl
    · rw [takeReply_qualifying (p := x) (i := i) state, drop_setDrop_self]
      rfl
    · rw [takeReply_up (p := x) (i := i) state, drop_setDrop_self, none', heard_none, is]
      rfl
    · rw [takeReply_up (p := x) (i := i) state, drop_setDrop_self, some', heard_some, is]
      rfl

/-- Settles O50: the three events that end a poll as a miss come to the same, and a miss is taken by the drop's state. -/
theorem missEndsThePoll : Obligations.MissEndsThePoll := by
  intro s m l running
  refine ⟨fun idle => exec_replyWindowEnd_idle running fun k outstanding => ?_, fun c discards ends => ?_,
    fun k outstanding stopped => exec_replyWindowEnd_idle running fun k' also => ?_,
    fun k d c receiving late outstanding polled ends => ?_⟩
  · cases idle.symm.trans outstanding
  · have discarded : exec (.invalidReply l) s = .next (s.withPart (afterPanelFrame (partOf s m) l)) := by
      rw [exec_invalidReply_running running, panelFrame_discards (discards.symm.imp_right missPoll_idle)]
    rcases ends with rfl | ⟨rfl, under⟩
    · exact discarded
    · exact (exec_frameGapTimeout_receiving running under).trans discarded
  · cases outstanding.symm.trans also
    exact stopped
  · let x := withReceivers (partOf s m) receiving late
    let i := dropIndex l.val k.address
    have missed : exec c s = .next (s.withPart (x.missPoll l.val)) := by
      rcases ends with ⟨rfl, timely, rfl, rfl⟩ | ⟨rfl, runs, rfl, rfl⟩ | ⟨rfl, under, timely, rfl, rfl⟩
      · rw [exec_invalidReply_running running, panelFrame_judged timely]
        rfl
      · rw [exec_replyWindowEnd_running running, (windowEnd_spec (partOf s m) l).2 ⟨k, outstanding, runs⟩]
        rfl
      · rw [exec_frameGapTimeout_receiving running under, exec_invalidReply_running running, panelFrame_judged timely]
        rfl
    refine ⟨pollEnded (x.takeMiss i) l.val, (x.takeMiss i).endPoll l.val, ?_, nextPoll_endPoll _ _,
      (takeMiss_frame x i).1, pollEnded_takeMiss_main x l.val i, fun n other => takeMiss_drop_ne other,
      fun state => ?_, fun state => ?_, fun state few => ?_, fun state many => ?_⟩
    · rw [missed, missPoll_outstanding (p := x) outstanding]
    all_goals
      subst polled
      change (x.takeMiss i).drop i = _ ∧ (x.takeMiss i).main.panelDown = _
    · rw [takeMiss_idle (p := x) (i := i) state]
      exact ⟨rfl, rfl⟩
    · rw [takeMiss_qualifying (p := x) (i := i) state, drop_setDrop_self]
      exact ⟨rfl, rfl⟩
    · rw [takeMiss_counts (p := x) (i := i) state few, drop_setDrop_self]
      exact ⟨rfl, rfl⟩
    · rw [takeMiss_fails (p := x) (i := i) state many, drop_raisePanelDown, drop_setDrop_self]
      exact ⟨rfl, rfl⟩

end Sys2Proof.Proofs
end

section
/-! SUPPORT. The statements on the dispatcher link, on the ends of timers, and on power (chapters 6, 8 and 11). -/

namespace Sys2Proof.Laws

open Sys2Proof.Machine Sys2Proof.Safety

/-! ## DISPATCH_ALIVE (R130, R133) -/

section
variable {p : Part}

theorem send_eq_take (f : DispatcherFrame) (room : p.main.sendQueue.length ≤ 64) :
    p.send f = p.withSendQueue ((p.main.sendQueue ++ [f]).take 64) := by
  rw [← send_queue f room, send_spec]
  rfl

/-- The notices join the send queue as far as its places go. -/
theorem foldl_noticeConfigured_take (gs : List Nat) (p : Part) (room : p.main.sendQueue.length ≤ 64) :
    gs.foldl noticeConfigured p = p.withSendQueue ((p.main.sendQueue ++ noticesOf p gs).take 64) := by
  induction gs generalizing p with
  | nil =>
    have none' : noticesOf p [] = [] := rfl
    rw [none', List.append_nil, List.take_of_length_le room]
    rfl
  | cons g gs ih =>
    rw [List.foldl_cons, noticesOf_cons, noticeConfigured]
    split
    · rw [Part.notice, send_eq_take _ room, ih]
      · rw [withSendQueue_main]
        dsimp only
        rw [take_append_take]
        rfl
      · rw [withSendQueue_main]
        exact List.length_take_le _ _
    · exact ih p room

theorem noticeAll_eq_take (room : p.main.sendQueue.length ≤ 64) :
    p.noticeAll = p.withSendQueue ((p.main.sendQueue ++ notices p).take 64) :=
  (noticeAll_eq_foldl p).trans (foldl_noticeConfigured_take eight p room)

theorem qualifyLink_short {run : Nat} (short : run < p.ret.params.linkQualify) :
    p.qualifyLink run = p.withLink .qualifying run := if_neg (Nat.not_le.2 short)

theorem qualifyLink_long (room : p.main.sendQueue.length ≤ 64) {run : Nat} (long : p.ret.params.linkQualify ≤ run) :
    p.qualifyLink run = (p.withLink .up 0).withSendQueue ((p.main.sendQueue ++ notices p).take 64) :=
  (if_pos long).trans (noticeAll_eq_take (p := p.withLink .up 0) room)

/-- A run of frames moves the link and sends the notices, and changes nothing else. -/
theorem qualifyLink_frame (p : Part) (room : p.main.sendQueue.length ≤ 64) (run : Nat) :
    (p.qualifyLink run).ret = p.ret ∧ (p.qualifyLink run).main = { p.main with
      link := (p.qualifyLink run).main.link, aliveRun := (p.qualifyLink run).main.aliveRun
      sendQueue := (p.qualifyLink run).main.sendQueue } := by
  by_cases long : p.ret.params.linkQualify ≤ run
  · rw [qualifyLink_long room long]
    exact ⟨rfl, rfl⟩
  · rw [qualifyLink_short (Nat.not_le.1 long)]
    exact ⟨rfl, rfl⟩

/-- The part when a DISPATCH_ALIVE has set the service and the liveness timer. -/
def heardAlive (p : Part) (groups : Set8) : Part :=
  ⟨p.ret, { p.main with
    receiving := setPut p.main.receiving 6 false
    inService := groups
    liveness := some (p.main.now + p.ret.params.livenessTimeout) }⟩

theorem alive_up {groups : Set8} (link : p.main.link = .up) :
    (p.hunt .dispatcher).alive groups = heardAlive p groups := by
  have same : (p.hunt .dispatcher).main.link = .up := link
  unfold Part.alive
  rw [same]
  rfl

theorem alive_run {groups : Set8} {run : Nat}
    (link : (p.main.link = .down ∧ run = 1) ∨ (p.main.link = .qualifying ∧ run = p.main.aliveRun + 1)) :
    (p.hunt .dispatcher).alive groups = (heardAlive p groups).qualifyLink run := by
  unfold Part.alive
  rcases link with ⟨link, rfl⟩ | ⟨link, rfl⟩
  · have same : (p.hunt .dispatcher).main.link = .down := link
    rw [same]
    rfl
  · have same : (p.hunt .dispatcher).main.link = .qualifying := link
    rw [same]
    rfl

end

/-! ## Ends of frames, tickets, memories and windows (R133, R143, R153, R164, R165) -/

section
variable {p : Part} {i l : Nat}

theorem endMemory_empty (empty : (p.drop i).memory = none) : p.endMemory i = p := by
  rw [Part.endMemory, empty]

theorem endMemory_held {k : RepeatMemory} (held : (p.drop i).memory = some k) : p.endMemory i =
    if k.ends ≤ p.main.now then p.setDrop i { p.drop i with memory := none } else p := by
  rw [Part.endMemory, held]

theorem endEscort_closed (closed : (p.drop i).escort = none) : p.endEscort i = p := by
  rw [Part.endEscort, closed]

theorem endEscort_open {w : EscortWindow} (held : (p.drop i).escort = some w) : p.endEscort i =
    if w.ends ≤ p.main.now then p.setDrop i { p.drop i with escort := none } else p := by
  rw [Part.endEscort, held]

theorem startWindow_idle (idle : (p.panelLink l).poll = none) : p.startWindow l = p := by
  rw [Part.startWindow, idle]

theorem startWindow_outstanding {k : Poll} (outstanding : (p.panelLink l).poll = some k) : p.startWindow l =
    p.setLink l { p.panelLink l with poll := some { k with windowRunning := true } } := by
  rw [Part.startWindow, outstanding]

end

section
variable {s : State} {m : Main} (running : s.well = .running m) {c : Instr} {act : Part → Part}
  (arm : exec c s = whileRunning s act)
include running arm

/-- An event of the main well that comes to a part answers it. -/
theorem exec_to {q : Part} (comes : act (partOf s m) = q) : exec c s = .next (s.withPart q) := by
  rw [arm, whileRunning_running running]
  exact congrArg (fun q => Host.Outcome.next (s.withPart q)) comes

theorem exec_same (same : act (partOf s m) = partOf s m) : exec c s = .next s := by
  rw [exec_to running arm same, withPart_self running]

end

/-! ## The wells (R196 to R201) -/

/-- The start sequence of a well that was lost, with every line inactive, is what reset names. -/
theorem startSequence_afterLoss : (startSequence .afterLoss 0xFF).ret = .afterLoss ∧
    (startSequence .afterLoss 0xFF).main = .fresh := by decide +kernel

theorem exec_startSequence_afterLoss {s : State} (qualifying : s.well = .qualifying) (lost : s.ret.powered = .afterLoss) :
    exec (.startSequence 0xFF) s = .next { s with ret := .afterLoss, well := .running .fresh } := by
  rw [exec_startSequence, execStartSequence, qualifying]
  dsimp only
  rw [lost, State.withPart, startSequence_afterLoss.1, startSequence_afterLoss.2]

section
variable {s : State}

theorem powered_intact (intact : s.ret.intact = true) : s.ret.powered = s.ret := if_pos intact

theorem powered_lost (lost : s.ret.intact = false) : s.ret.powered = .afterLoss :=
  if_neg (by rw [lost]; exact Bool.false_ne_true)

theorem afterStop_eq (r : Retention) (supply : Bool) : r.afterStop supply = { r with intact := r.intact && supply } := by
  cases supply with
  | true =>
    rw [Bool.and_true]
    rfl
  | false =>
    rw [Bool.and_false]
    rfl

end

end Sys2Proof.Laws

namespace Sys2Proof.Proofs

open Sys2Proof.Machine Sys2Proof.Safety Sys2Proof.Laws

/-- Settles O46: by the state of the link, and the run against the qualify count. -/
theorem dispatchAliveMovesTheLink : Obligations.DispatchAliveMovesTheLink := by
  intro s m groups running room
  let x := heardAlive (partOf s m) groups
  have answer : exec (.dispatchAlive groups) s =
      .next (s.withPart (((partOf s m).hunt .dispatcher).alive groups)) :=
    (exec_dispatchAlive groups s).trans (whileRunning_running running _)
  by_cases up : m.link = .up
  · refine ⟨x, ?_, rfl, ?_, fun _ => ⟨up, rfl, rfl⟩, fun run moves => ?_⟩
    · rw [answer, alive_up up]
    · rfl
    · rcases moves with ⟨link, -⟩ | ⟨link, -⟩ <;> cases up.symm.trans link
  · have moves : ∃ run, (m.link = .down ∧ run = 1) ∨ (m.link = .qualifying ∧ run = m.aliveRun + 1) := by
      cases link : m.link with
      | down => exact ⟨_, .inl ⟨rfl, rfl⟩⟩
      | qualifying => exact ⟨_, .inr ⟨rfl, rfl⟩⟩
      | up => exact absurd link up
    obtain ⟨run, moves⟩ := moves
    obtain ⟨ret, main⟩ := qualifyLink_frame x room run
    refine ⟨x.qualifyLink run, ?_, ret, main, fun also => absurd also up, fun run' also => ?_⟩
    · rw [answer, alive_run moves]
    · have same : run' = run := by
        rcases moves with ⟨link, rfl⟩ | ⟨link, rfl⟩ <;> rcases also with ⟨link', rfl⟩ | ⟨link', rfl⟩
        · rfl
        · cases link.symm.trans link'
        · cases link.symm.trans link'
        · rfl
      subst same
      refine ⟨fun short => ?_, fun long => ?_⟩
      · rw [qualifyLink_short (p := x) short]
        exact ⟨rfl, rfl, rfl⟩
      · rw [qualifyLink_long (p := x) room long]
        exact ⟨rfl, rfl, rfl⟩

/-- Settles O48: each end is due or does nothing. -/
theorem endsOfFramesTicketsAndMemories : Obligations.EndsOfFramesTicketsAndMemories := by
  intro s m running
  refine ⟨exec_to running (exec_dispatcherFrameSent s) rfl, fun b => ?_, fun n empty => ?_,
    fun n d k is held => ⟨fun early => ?_, fun due => ?_⟩, fun n closed => ?_, fun n d w is held => ⟨fun early => ?_, fun due => ?_⟩,
    fun l idle => ?_, fun l k outstanding => ?_⟩
  · have kept : (m.tickets.filter fun t => !(decide (t.badge = b) && expired m.now t)) = m.tickets.filter fun t =>
        !(decide (t.badge = b) && (match t.state with | .issued e => decide (e ≤ m.now) | _ => false)) := by
      refine List.filter_congr fun t _ => ?_
      rw [expired]
      cases t.state <;> rfl
    refine exec_to running (exec_ticketExpiry b s) ?_
    exact congrArg (Part.withTickets (partOf s m)) kept
  · exact exec_same running (exec_repeatMemoryEnd n s) (endMemory_empty empty)
  · subst is
    exact exec_same running (exec_repeatMemoryEnd n s) ((endMemory_held held).trans (if_neg (Nat.not_le.2 early)))
  · subst is
    exact exec_to running (exec_repeatMemoryEnd n s) ((endMemory_held held).trans (if_pos due))
  · exact exec_same running (exec_escortWindowEnd n s) (endEscort_closed closed)
  · subst is
    exact exec_same running (exec_escortWindowEnd n s) ((endEscort_open held).trans (if_neg (Nat.not_le.2 early)))
  · subst is
    exact exec_to running (exec_escortWindowEnd n s) ((endEscort_open held).trans (if_pos due))
  · exact exec_same running (exec_pollSent l s) (startWindow_idle idle)
  · exact exec_to running (exec_pollSent l s) (startWindow_outstanding outstanding)

/-- Settles O51: each power event by the state of the well; every other event leaves an OFF well OFF by O3. -/
theorem wellsAndPins : Obligations.WellsAndPins := by
  refine ⟨⟨rfl, _, _, rfl, rfl, exec_startSequence_afterLoss rfl rfl⟩, fun c s t off other next => ?_, fun s => ?_⟩
  · by_cases still : movesWell c = false
    · obtain ⟨-, -, -, -, stays, -⟩ := onlyPowerEventsMoveTheWells c s t still next
      exact stays off
    · cases c with
      | startConditionBegins => exact absurd rfl other
      | startConditionCeases ok released =>
        cases next
        split
        · exact off
        · rw [State.ceases, off]
      | startSequence levels =>
        rw [exec_startSequence, execStartSequence, off] at next
        cases next
        exact off
      | retentionPowerGain =>
        cases next
        exact off
      | retentionSupplyLoss =>
        cases next
        rw [State.supplyLost, off]
      | replySent =>
        rw [replySent_lost (.inr off)] at next
        cases next
        exact off
      | _ => exact absurd rfl still
  · refine ⟨fun intact => ?_, fun lost => ?_, fun stopped => ?_, fun m running => ?_, fun stopped => ?_, fun m running => ?_,
      rfl, fun ok released failed => ⟨fun stopped => ?_, fun m running => ?_⟩⟩
    · rw [exec_retentionPowerGain, execRetentionPowerGain, powered_intact intact]
    · rw [exec_retentionPowerGain, execRetentionPowerGain, powered_lost lost]
      rfl
    · rw [exec_retentionSupplyLoss, execRetentionSupplyLoss, State.supplyLost]
      rcases stopped with off | qualifying
      · rw [off]
      · rw [qualifying]
    · rw [exec_retentionSupplyLoss, execRetentionSupplyLoss, State.supplyLost, running]
    · rw [exec_startConditionBegins, execStartConditionBegins]
      rcases stopped with off | qualifying
      · rw [off]
        rfl
      · rw [qualifying]
        rfl
    · rw [exec_startConditionBegins, execStartConditionBegins, running]
      rfl
    · rw [exec_startConditionCeases, execStartConditionCeases, failed, State.ceases]
      rcases stopped with off | qualifying
      · rw [off]
        rfl
      · rw [qualifying]
        rfl
    · rw [exec_startConditionCeases, execStartConditionCeases, failed, State.ceases]
      rw [running, State.mainStop, afterStop_eq]
      rfl

end Sys2Proof.Proofs
end
